-- ==== Sys2Proof/Word.lean ====
section
/-! DEFINITION. The plain value types of the S640 and the small containers its state is built from.

Values the manual wraps or masks are bit vectors of the manual's width (seconds modulo 2^32, cadence numbers modulo
2^16, PTS modulo 2^33, continuity counts modulo 16, bytes); counts, ticks, indices and packet identifiers are `Nat`. -/

namespace Sys2Proof

/-- One byte of a transport packet or of a management payload. -/
abbrev Byte : Type := BitVec 8

/-- A transport packet, byte 0 (the sync byte) first; a well-formed one holds 188 bytes. -/
abbrev Packet : Type := List Byte

/-- A packet identifier, 0..8191. -/
abbrev Pid : Type := Nat

/-- A cadence number, counted modulo 65,536 (00_scope, Terms). -/
abbrev Cadence : Type := BitVec 16

/-- A presentation or decoding timestamp, 33 bits at 90 kHz (00_scope, Timestamps). -/
abbrev Pts : Type := BitVec 33

/-- Seconds of site time, modulo 2^32 (R49). -/
abbrev Seconds : Type := BitVec 32

/-- A continuity count, modulo 16. -/
abbrev Continuity : Type := BitVec 4

/-- Site time: seconds and a 27 MHz tick within the second, 0..26,999,999 (chapter 4). -/
structure SiteTime where
  sec : Seconds
  tick : Nat
deriving DecidableEq, Repr

/-- One of the two copies of the network multiplex. -/
inductive Feed where
  | a
  | b
deriving DecidableEq, Repr

/-- The feed that is not `f`. -/
def Feed.other : Feed → Feed
  | .a => .b
  | .b => .a

/-- An input port with a framer (1.1). -/
inductive Port where
  | a
  | b
  | l
deriving DecidableEq, Repr

/-- The port a feed arrives on. -/
def Feed.port : Feed → Port
  | .a => .a
  | .b => .b

/-- The feed a port carries; port L carries none. -/
def Port.feed? : Port → Option Feed
  | .a => some .a
  | .b => some .b
  | .l => none

/-- One value for each feed. -/
structure PerFeed (α : Type) where
  a : α
  b : α
deriving DecidableEq, Repr

def PerFeed.get {α : Type} (p : PerFeed α) : Feed → α
  | .a => p.a
  | .b => p.b

def PerFeed.set {α : Type} (p : PerFeed α) (f : Feed) (x : α) : PerFeed α :=
  match f with
  | .a => { p with a := x }
  | .b => { p with b := x }

/-- One value for each input port. -/
structure PerPort (α : Type) where
  a : α
  b : α
  l : α
deriving DecidableEq, Repr

def PerPort.get {α : Type} (p : PerPort α) : Port → α
  | .a => p.a
  | .b => p.b
  | .l => p.l

def PerPort.set {α : Type} (p : PerPort α) (q : Port) (x : α) : PerPort α :=
  match q with
  | .a => { p with a := x }
  | .b => { p with b := x }
  | .l => { p with l := x }

end Sys2Proof
end

