-- ==== Sys2Proof/Syntax.lean ====
section
/-! DEFINITION. The commands the block takes: one constructor of `Instr` for each row of spec/opcode_table.json.

The first group are the events of the part (a packet taken, a pulse, a timer's expiry, a slot); the second are the
management commands of the catalogue (11.3), each with the header its packet carried and its parameters as carried: a
named choice, a channel number or a PID is the number of its bytes, in or out of its range, so that the refusals the
rules give can be stated. -/

namespace Sys2Proof

/-- Where an accepted management packet came from (R187, R188). -/
inductive Source where
  | feed
  | portL
deriving DecidableEq, Repr

/-- When the sync byte of a packet was received, told as the packet is handed on with its last byte (R2, R7): `ago` ticks of
site time ago, and, where `beforeStep`, before the last step of site time (log entry 29). -/
structure SyncByte where
  ago : Nat
  beforeStep : Bool
deriving DecidableEq, Repr

/-- What the Management Unit keeps of an accepted packet beside its parameters: its source and the tag it echoes. -/
structure Header where
  source : Source
  tag : Byte
deriving DecidableEq, Repr

/-- A timing parameter: choice 0 is NOW, 1 is AT CADENCE with the number carried (R59, R60, 11.6). -/
structure TimingParam where
  choice : Nat
  cadence : Cadence
deriving DecidableEq, Repr

/-- FEED_POLICY_SET (R46): preferred feed (0 A, 1 B), revertive policy (0 on, 1 off), hold, bridging settings. -/
structure FeedPolicyParams where
  preferred : Nat
  policy : Nat
  hold : Nat
  bridgingA : Nat
  bridgingB : Nat
  bridgingL : Nat
deriving DecidableEq, Repr

/-- STREAM_WRITE (R97): action 0 PASS, 1 DROP; each flag 0 yes, 1 no. -/
structure StreamWriteParams where
  inPid : Nat
  action : Nat
  outPid : Option Nat
  managed : Nat
  carrier : Nat
  check : Nat
deriving DecidableEq, Repr

/-- CHANNEL_SET (R123): enabled 0 yes, 1 no; the component count is the length of the list of PIDs. -/
structure ChannelSetParams where
  channel : Nat
  enabled : Nat
  cuePid : Nat
  pids : List Nat
deriving DecidableEq, Repr

/-- CUE_MATCH_WRITE (R126): the mask is a set of channel numbers, channel 0 at bit 0. -/
structure CueMatchParams where
  index : Nat
  enabled : Nat
  avail : Nat
  mask : Nat
  clip : Nat
deriving DecidableEq, Repr

/-- CUE_POST (R127): kind 0 OUT, 1 IN, 2 CANCEL. -/
structure CuePostParams where
  channel : Nat
  event : Nat
  kind : Nat
  time : Option Nat
  duration : Option Nat
  avail : Nat
deriving DecidableEq, Repr

/-- CUE_CANCEL (R128): choice 0 an event id, 1 ALL. -/
structure CueCancelParams where
  channel : Nat
  choice : Nat
  event : Nat
deriving DecidableEq, Repr

/-- CLIP_LOAD_BEGIN (R134). -/
structure LoadBeginParams where
  clip : Nat
  count : Nat
  crc : BitVec 32
  duration : Nat
  pids : List Nat
deriving DecidableEq, Repr

/-- TRACE_CONFIGURE (R180): mode 0 CONTINUOUS, 1 ONE_SHOT; start 0 IMMEDIATE, 1 ON_FLAG with the flag number. -/
structure TraceParams where
  quantities : List Nat
  divider : Nat
  mode : Nat
  start : Nat
  flag : Nat
deriving DecidableEq, Repr

/-- A management command of the catalogue (11.3) with its parameters, as the decoder hands it to its owner. -/
inductive Command where
  | modeSet (mode : Nat)
  | feedPolicySet (p : FeedPolicyParams)
  | rateSet (rate : Nat) (timing : TimingParam)
  | offsetSet (offset : Int) (timing : TimingParam)
  | delaySet (ms : Nat)
  | timeSet (sec : Seconds)
  | holdoverSet (limit : Nat)
  | streamWrite (p : StreamWriteParams)
  | streamErase (pid : Nat)
  | streamRead (choice : Nat) (pid : Nat)
  | defaultActionSet (action : Nat)
  | channelSet (p : ChannelSetParams)
  | channelDisable (channel : Nat)
  | channelRead (choice : Nat) (channel : Nat)
  | cueMatchWrite (p : CueMatchParams)
  | cuePost (p : CuePostParams)
  | cueCancel (p : CueCancelParams)
  | clipLoadBegin (p : LoadBeginParams)
  | clipLoadEnd (clip : Nat)
  | clipLoadAbandon
  | clipDelete (clip : Nat)
  | clipDirectoryRead (choice : Nat) (clip : Nat)
  | gateRequest (value : Nat)
  | diagActionWrite (condition : Nat) (action : Nat)
  | scanSet (setting : Nat)
  | eventReadClear (flags : Nat)
  | eventMaskWrite (masks : List Nat)
  | snapshotTake
  | snapshotRead
  | traceConfigure (p : TraceParams)
  | traceStart
  | traceStop
  | traceRead (first : Nat) (count : Nat)
  | countersRead (selection : Nat) (clear : Nat)
  | statusRead
  | addressWrite (group0 : Nat) (group1 : Nat)
  | authorityWrite (mask : Nat)
  | restart
deriving DecidableEq, Repr

/-- The commands of the block, one constructor for each row of the opcode table. -/
inductive Instr where
  /-- R197: RESET is released; the twelve ADDR pins read `pins`. -/
  | powerOn (pins : BitVec 12)
  /-- R1, R5. -/
  | signalAppears (p : Port)
  /-- R2, R5. -/
  | signalDisappears (p : Port)
  /-- R1, R4, R6: the fourth good sync byte in a row. -/
  | lockAcquired (p : Port)
  /-- R2: an expected sync byte is bad. -/
  | syncError (p : Port)
  /-- R4. -/
  | bridgingTimerExpiry (p : Port)
  /-- R5. -/
  | absenceTimerExpiry (p : Port)
  /-- R2, R7: the packet, and when its sync byte was received. -/
  | packetTaken (p : Port) (sync : SyncByte) (packet : Packet)
  /-- R27, R28. -/
  | groupStart
  /-- R29: the record of number `n` in the table of feed `f`. -/
  | passedGroup (f : Feed) (n : Cadence)
  /-- R30. -/
  | staleRecord (f : Feed) (n : Cadence)
  /-- R53, R54. -/
  | departureSlot
  /-- R121. -/
  | forcedReturn (channel : Fin 4)
  /-- R37. -/
  | revertTimerExpiry
  /-- R70: a time message received whole, naming the seconds of the next pulse. -/
  | refTimeMessage (sec : Seconds)
  /-- R71, R72. -/
  | ppsPulse
  /-- R71. -/
  | missingPulseTimerExpiry
  /-- R76. -/
  | ref10MHzLost
  /-- R80. -/
  | holdoverSecondEnd
  /-- R166. -/
  | scan
  /-- R144. -/
  | memorySlot
  /-- R143. -/
  | prefetchReadComplete
  /-- R136, R138. -/
  | loadWriteComplete
  /-- R191. -/
  | monitorPacketSent
  /-- R196. -/
  | warmRestart
  | modeSet (h : Header) (mode : Nat)
  | feedPolicySet (h : Header) (p : FeedPolicyParams)
  | rateSet (h : Header) (rate : Nat) (timing : TimingParam)
  | offsetSet (h : Header) (offset : Int) (timing : TimingParam)
  | delaySet (h : Header) (ms : Nat)
  | timeSet (h : Header) (sec : Seconds)
  | holdoverSet (h : Header) (limit : Nat)
  | streamWrite (h : Header) (p : StreamWriteParams)
  | streamErase (h : Header) (pid : Nat)
  | streamRead (h : Header) (choice : Nat) (pid : Nat)
  | defaultActionSet (h : Header) (action : Nat)
  | channelSet (h : Header) (p : ChannelSetParams)
  | channelDisable (h : Header) (channel : Nat)
  | channelRead (h : Header) (choice : Nat) (channel : Nat)
  | cueMatchWrite (h : Header) (p : CueMatchParams)
  | cuePost (h : Header) (p : CuePostParams)
  | cueCancel (h : Header) (p : CueCancelParams)
  | clipLoadBegin (h : Header) (p : LoadBeginParams)
  | clipLoadEnd (h : Header) (clip : Nat)
  | clipLoadAbandon (h : Header)
  | clipDelete (h : Header) (clip : Nat)
  | clipDirectoryRead (h : Header) (choice : Nat) (clip : Nat)
  | gateRequest (h : Header) (value : Nat)
  | diagActionWrite (h : Header) (condition : Nat) (action : Nat)
  | scanSet (h : Header) (setting : Nat)
  | eventReadClear (h : Header) (flags : Nat)
  | eventMaskWrite (h : Header) (masks : List Nat)
  | snapshotTake (h : Header)
  | snapshotRead (h : Header)
  | traceConfigure (h : Header) (p : TraceParams)
  | traceStart (h : Header)
  | traceStop (h : Header)
  | traceRead (h : Header) (first : Nat) (count : Nat)
  | countersRead (h : Header) (selection : Nat) (clear : Nat)
  | statusRead (h : Header)
  | addressWrite (h : Header) (group0 : Nat) (group1 : Nat)
  | authorityWrite (h : Header) (mask : Nat)
  | restart (h : Header)
  /-- R188: an accepted packet whose code is not in the catalogue. -/
  | unknownCommand (h : Header) (code : Byte)
  /-- R72: the 10 MHz signal returns. -/
  | ref10MHzRestored
  /-- R197. -/
  | resetAsserted
deriving DecidableEq, Repr

end Sys2Proof
end

