-- ==== Sys2Proof/Decode.lean ====
section
/-! DEFINITION. The catalogue of management commands (11.3), the parameter decoder and its inverse (11.6, "Parameters and
data"), the byte-order helpers they share, and the host's `decodeTableWord`: the opcode table of this block gives no row
any bits, so no word spells a command. -/

namespace Sys2Proof

/-- The number an unsigned field of bytes carries, most significant byte first (11.6). -/
def fromBytes (bs : List Byte) : Nat :=
  bs.foldl (fun n b => n * 256 + b.toNat) 0

/-- The `k` bytes of `n`, most significant first; higher bits of `n` are lost (11.6). -/
def toBytes : Nat → Nat → List Byte
  | 0, _ => []
  | k + 1, n => BitVec.ofNat 8 (n / 256 ^ k) :: toBytes k n

/-- A signed value in `k` bytes, two's complement (11.6). -/
def toSignedBytes (k : Nat) (i : Int) : List Byte :=
  toBytes k (i % (256 ^ k : Nat)).toNat

/-- The signed value of a field of bytes, two's complement (11.6). -/
def fromSignedBytes (bs : List Byte) : Int :=
  let n := fromBytes bs
  if 2 * n < 256 ^ bs.length then (n : Int) else (n : Int) - (256 ^ bs.length : Nat)

/-- The next `k` bytes of a parameter field as a number, and the bytes after them; none where there are too few. -/
def takeNumber (k : Nat) (bs : List Byte) : Option (Nat × List Byte) :=
  if bs.length < k then none else some (fromBytes (bs.take k), bs.drop k)

/-- The next `k` bytes as a signed number. -/
def takeSigned (k : Nat) (bs : List Byte) : Option (Int × List Byte) :=
  if bs.length < k then none else some (fromSignedBytes (bs.take k), bs.drop k)

/-- An optional value: a presence byte, 0 absent and 1 present, then the value's `k` bytes if present (11.6). A presence
byte that is neither gives none. Log entry 17. -/
def takeOptional (k : Nat) (bs : List Byte) : Option (Option Nat × List Byte) :=
  match takeNumber 1 bs with
  | none => none
  | some (0, rest) => some (none, rest)
  | some (1, rest) => (takeNumber k rest).map fun r => (some r.1, r.2)
  | some (_, _) => none

/-- `n` values of `k` bytes each. -/
def takeList (k : Nat) : Nat → List Byte → Option (List Nat × List Byte)
  | 0, bs => some ([], bs)
  | n + 1, bs =>
    match takeNumber k bs with
    | none => none
    | some (x, rest) => (takeList k n rest).map fun r => (x :: r.1, r.2)

/-- A list whose length may vary: a count byte, then the values (11.6). -/
def takeCounted (k : Nat) (bs : List Byte) : Option (List Nat × List Byte) :=
  (takeNumber 1 bs).bind fun r => takeList k r.1 r.2

/-- A timing: a choice byte, then the two bytes of the cadence number in every case (11.6). -/
def takeTiming (bs : List Byte) : Option (TimingParam × List Byte) :=
  (takeNumber 1 bs).bind fun c => (takeNumber 2 c.2).map fun n => (⟨c.1, BitVec.ofNat 16 n.1⟩, n.2)

/-- The six authority classes that a mask may hold, and the mark of the commands taken from port L only (11.3). -/
inductive AuthorityClass where
  | timing
  | tables
  | splice
  | gate
  | reporting
  | site
  | portLOnly
deriving DecidableEq, Repr

/-- The place of a class in the authority mask: TIMING, TABLES, SPLICE, GATE, REPORTING, SITE (R195, 11.6). -/
def AuthorityClass.bit? : AuthorityClass → Option Nat
  | .timing => some 0
  | .tables => some 1
  | .splice => some 2
  | .gate => some 3
  | .reporting => some 4
  | .site => some 5
  | .portLOnly => none

/-- The command codes of the catalogue with their authority classes (11.3). -/
def catalogue : List (Nat × AuthorityClass) :=
  [(0x10, .site), (0x11, .site), (0x12, .timing), (0x13, .timing), (0x14, .timing), (0x15, .timing), (0x16, .timing),
   (0x20, .tables), (0x21, .tables), (0x22, .reporting), (0x23, .tables),
   (0x30, .splice), (0x31, .splice), (0x32, .reporting), (0x33, .splice), (0x34, .splice), (0x35, .splice),
   (0x40, .portLOnly), (0x41, .portLOnly), (0x42, .portLOnly), (0x43, .portLOnly), (0x44, .portLOnly),
   (0x50, .gate), (0x51, .gate), (0x52, .gate), (0x53, .reporting), (0x54, .reporting), (0x55, .reporting),
   (0x56, .reporting), (0x57, .reporting), (0x58, .reporting), (0x59, .reporting), (0x5A, .reporting),
   (0x5B, .reporting), (0x60, .reporting), (0x61, .site), (0x62, .portLOnly), (0x63, .site)]

/-- The class of a command code, none where the catalogue does not hold it (R188). -/
def classOfCode (code : Byte) : Option AuthorityClass :=
  (catalogue.find? fun r => r.1 == code.toNat).map (·.2)

/-- The catalogue code of a command (11.3). -/
def codeOf : Command → Byte
  | .modeSet _ => 0x10#8
  | .feedPolicySet _ => 0x11#8
  | .rateSet _ _ => 0x12#8
  | .offsetSet _ _ => 0x13#8
  | .delaySet _ => 0x14#8
  | .timeSet _ => 0x15#8
  | .holdoverSet _ => 0x16#8
  | .streamWrite _ => 0x20#8
  | .streamErase _ => 0x21#8
  | .streamRead _ _ => 0x22#8
  | .defaultActionSet _ => 0x23#8
  | .channelSet _ => 0x30#8
  | .channelDisable _ => 0x31#8
  | .channelRead _ _ => 0x32#8
  | .cueMatchWrite _ => 0x33#8
  | .cuePost _ => 0x34#8
  | .cueCancel _ => 0x35#8
  | .clipLoadBegin _ => 0x40#8
  | .clipLoadEnd _ => 0x41#8
  | .clipLoadAbandon => 0x42#8
  | .clipDelete _ => 0x43#8
  | .clipDirectoryRead _ _ => 0x44#8
  | .gateRequest _ => 0x50#8
  | .diagActionWrite _ _ => 0x51#8
  | .scanSet _ => 0x52#8
  | .eventReadClear _ => 0x53#8
  | .eventMaskWrite _ => 0x54#8
  | .snapshotTake => 0x55#8
  | .snapshotRead => 0x56#8
  | .traceConfigure _ => 0x57#8
  | .traceStart => 0x58#8
  | .traceStop => 0x59#8
  | .traceRead _ _ => 0x5A#8
  | .countersRead _ _ => 0x5B#8
  | .statusRead => 0x60#8
  | .addressWrite _ _ => 0x61#8
  | .authorityWrite _ => 0x62#8
  | .restart => 0x63#8

/-- An optional value as parameters carry it (11.6). -/
def optionalBytes (k : Nat) : Option Nat → List Byte
  | none => [0x00#8]
  | some n => 0x01#8 :: toBytes k n

/-- A timing as parameters carry it: the choice, and the cadence number in every case (11.6). -/
def timingBytes (t : TimingParam) : List Byte :=
  toBytes 1 t.choice ++ toBytes 2 t.cadence.toNat

/-- The parameter bytes of a command, in the order its rule lists them, in the widths of 11.6. -/
def encodeParams : Command → List Byte
  | .modeSet m => toBytes 1 m
  | .feedPolicySet p =>
    toBytes 1 p.preferred ++ (toBytes 1 p.policy ++ (toBytes 4 p.hold ++
      (toBytes 4 p.bridgingA ++ (toBytes 4 p.bridgingB ++ toBytes 4 p.bridgingL))))
  | .rateSet r t => toBytes 4 r ++ timingBytes t
  | .offsetSet o t => toSignedBytes 4 o ++ timingBytes t
  | .delaySet d => toBytes 4 d
  | .timeSet sec => toBytes 4 sec.toNat
  | .holdoverSet l => toBytes 4 l
  | .streamWrite p =>
    toBytes 2 p.inPid ++ (toBytes 1 p.action ++ (optionalBytes 2 p.outPid ++
      (toBytes 1 p.managed ++ (toBytes 1 p.carrier ++ toBytes 1 p.check))))
  | .streamErase pid => toBytes 2 pid
  | .streamRead c pid => toBytes 1 c ++ toBytes 2 pid
  | .defaultActionSet a => toBytes 1 a
  | .channelSet p =>
    toBytes 1 p.channel ++ (toBytes 1 p.enabled ++ (toBytes 2 p.cuePid ++
      (toBytes 1 p.pids.length ++ p.pids.flatMap (toBytes 2))))
  | .channelDisable c => toBytes 1 c
  | .channelRead k c => toBytes 1 k ++ toBytes 1 c
  | .cueMatchWrite p =>
    toBytes 1 p.index ++ (toBytes 1 p.enabled ++ (toBytes 1 p.avail ++ (toBytes 1 p.mask ++ toBytes 2 p.clip)))
  | .cuePost p =>
    toBytes 1 p.channel ++ (toBytes 4 p.event ++ (toBytes 1 p.kind ++ (optionalBytes 5 p.time ++
      (optionalBytes 4 p.duration ++ toBytes 1 p.avail))))
  | .cueCancel p => toBytes 1 p.channel ++ (toBytes 1 p.choice ++ toBytes 4 p.event)
  | .clipLoadBegin p =>
    toBytes 2 p.clip ++ (toBytes 4 p.count ++ (toBytes 4 p.crc.toNat ++ (toBytes 4 p.duration ++
      (toBytes 1 p.pids.length ++ p.pids.flatMap (toBytes 2)))))
  | .clipLoadEnd c => toBytes 2 c
  | .clipLoadAbandon => []
  | .clipDelete c => toBytes 2 c
  | .clipDirectoryRead k c => toBytes 1 k ++ toBytes 2 c
  | .gateRequest v => toBytes 1 v
  | .diagActionWrite c a => toBytes 1 c ++ toBytes 1 a
  | .scanSet n => toBytes 2 n
  | .eventReadClear fs => toBytes 4 fs
  | .eventMaskWrite ms => ms.flatMap (toBytes 1)
  | .snapshotTake => []
  | .snapshotRead => []
  | .traceConfigure p =>
    toBytes 1 p.quantities.length ++ (p.quantities.flatMap (toBytes 1) ++ (toBytes 1 p.divider ++
      (toBytes 1 p.mode ++ (toBytes 1 p.start ++ toBytes 1 p.flag))))
  | .traceStart => []
  | .traceStop => []
  | .traceRead f n => toBytes 2 f ++ toBytes 2 n
  | .countersRead s c => toBytes 1 s ++ toBytes 1 c
  | .statusRead => []
  | .addressWrite a b => toBytes 2 a ++ toBytes 2 b
  | .authorityWrite m => toBytes 1 m
  | .restart => []

/-- FEED_POLICY_SET's parameters. -/
def decodeFeedPolicy (bs : List Byte) : Option Command := do
  let (preferred, bs) ← takeNumber 1 bs
  let (policy, bs) ← takeNumber 1 bs
  let (hold, bs) ← takeNumber 4 bs
  let (a, bs) ← takeNumber 4 bs
  let (b, bs) ← takeNumber 4 bs
  let (l, _) ← takeNumber 4 bs
  return .feedPolicySet ⟨preferred, policy, hold, a, b, l⟩

/-- STREAM_WRITE's parameters. -/
def decodeStreamWrite (bs : List Byte) : Option Command := do
  let (inPid, bs) ← takeNumber 2 bs
  let (action, bs) ← takeNumber 1 bs
  let (outPid, bs) ← takeOptional 2 bs
  let (managed, bs) ← takeNumber 1 bs
  let (carrier, bs) ← takeNumber 1 bs
  let (check, _) ← takeNumber 1 bs
  return .streamWrite ⟨inPid, action, outPid, managed, carrier, check⟩

/-- CHANNEL_SET's parameters: the component count stands just before the list and serves as its count byte. -/
def decodeChannelSet (bs : List Byte) : Option Command := do
  let (channel, bs) ← takeNumber 1 bs
  let (enabled, bs) ← takeNumber 1 bs
  let (cuePid, bs) ← takeNumber 2 bs
  let (pids, _) ← takeCounted 2 bs
  return .channelSet ⟨channel, enabled, cuePid, pids⟩

/-- CUE_MATCH_WRITE's parameters. -/
def decodeCueMatch (bs : List Byte) : Option Command := do
  let (index, bs) ← takeNumber 1 bs
  let (enabled, bs) ← takeNumber 1 bs
  let (avail, bs) ← takeNumber 1 bs
  let (mask, bs) ← takeNumber 1 bs
  let (clip, _) ← takeNumber 2 bs
  return .cueMatchWrite ⟨index, enabled, avail, mask, clip⟩

/-- CUE_POST's parameters. -/
def decodeCuePost (bs : List Byte) : Option Command := do
  let (channel, bs) ← takeNumber 1 bs
  let (event, bs) ← takeNumber 4 bs
  let (kind, bs) ← takeNumber 1 bs
  let (time, bs) ← takeOptional 5 bs
  let (duration, bs) ← takeOptional 4 bs
  let (avail, _) ← takeNumber 1 bs
  return .cuePost ⟨channel, event, kind, time, duration, avail⟩

/-- CUE_CANCEL's parameters: the event id's bytes are carried in every case. -/
def decodeCueCancel (bs : List Byte) : Option Command := do
  let (channel, bs) ← takeNumber 1 bs
  let (choice, bs) ← takeNumber 1 bs
  let (event, _) ← takeNumber 4 bs
  return .cueCancel ⟨channel, choice, event⟩

/-- CLIP_LOAD_BEGIN's parameters. -/
def decodeLoadBegin (bs : List Byte) : Option Command := do
  let (clip, bs) ← takeNumber 2 bs
  let (count, bs) ← takeNumber 4 bs
  let (crc, bs) ← takeNumber 4 bs
  let (duration, bs) ← takeNumber 4 bs
  let (pids, _) ← takeCounted 2 bs
  return .clipLoadBegin ⟨clip, count, BitVec.ofNat 32 crc, duration, pids⟩

/-- TRACE_CONFIGURE's parameters: the flag number is carried in every case. -/
def decodeTraceConfigure (bs : List Byte) : Option Command := do
  let (quantities, bs) ← takeCounted 1 bs
  let (divider, bs) ← takeNumber 1 bs
  let (mode, bs) ← takeNumber 1 bs
  let (start, bs) ← takeNumber 1 bs
  let (flag, _) ← takeNumber 1 bs
  return .traceConfigure ⟨quantities, divider, mode, start, flag⟩

/-- One number of `k` bytes. -/
def decodeOne (k : Nat) (mk : Nat → Command) (bs : List Byte) : Option Command :=
  (takeNumber k bs).map fun r => mk r.1

/-- Two numbers, of `j` and of `k` bytes. -/
def decodeTwo (j k : Nat) (mk : Nat → Nat → Command) (bs : List Byte) : Option Command :=
  (takeNumber j bs).bind fun r => (takeNumber k r.2).map fun q => mk r.1 q.1

/-- The command a catalogue code and its parameter bytes spell; none where the parameters are fewer than the command
needs (R188) or a presence byte is neither 0 nor 1. Bytes beyond those the command reads are ignored (R188). Of a code
outside the catalogue the answer is none too: R188 tests the code first. -/
def decodeParams (code : Byte) (bs : List Byte) : Option Command :=
  match code.toNat with
  | 0x10 => decodeOne 1 .modeSet bs
  | 0x11 => decodeFeedPolicy bs
  | 0x12 => (takeNumber 4 bs).bind fun r => (takeTiming r.2).map fun t => .rateSet r.1 t.1
  | 0x13 => (takeSigned 4 bs).bind fun r => (takeTiming r.2).map fun t => .offsetSet r.1 t.1
  | 0x14 => decodeOne 4 .delaySet bs
  | 0x15 => decodeOne 4 (fun n => .timeSet (BitVec.ofNat 32 n)) bs
  | 0x16 => decodeOne 4 .holdoverSet bs
  | 0x20 => decodeStreamWrite bs
  | 0x21 => decodeOne 2 .streamErase bs
  | 0x22 => decodeTwo 1 2 .streamRead bs
  | 0x23 => decodeOne 1 .defaultActionSet bs
  | 0x30 => decodeChannelSet bs
  | 0x31 => decodeOne 1 .channelDisable bs
  | 0x32 => decodeTwo 1 1 .channelRead bs
  | 0x33 => decodeCueMatch bs
  | 0x34 => decodeCuePost bs
  | 0x35 => decodeCueCancel bs
  | 0x40 => decodeLoadBegin bs
  | 0x41 => decodeOne 2 .clipLoadEnd bs
  | 0x42 => some .clipLoadAbandon
  | 0x43 => decodeOne 2 .clipDelete bs
  | 0x44 => decodeTwo 1 2 .clipDirectoryRead bs
  | 0x50 => decodeOne 1 .gateRequest bs
  | 0x51 => decodeTwo 1 1 .diagActionWrite bs
  | 0x52 => decodeOne 2 .scanSet bs
  | 0x53 => decodeOne 4 .eventReadClear bs
  | 0x54 => (takeList 1 26 bs).map fun r => .eventMaskWrite r.1
  | 0x55 => some .snapshotTake
  | 0x56 => some .snapshotRead
  | 0x57 => decodeTraceConfigure bs
  | 0x58 => some .traceStart
  | 0x59 => some .traceStop
  | 0x5A => decodeTwo 2 2 .traceRead bs
  | 0x5B => decodeTwo 1 1 .countersRead bs
  | 0x60 => some .statusRead
  | 0x61 => decodeTwo 2 2 .addressWrite bs
  | 0x62 => decodeOne 1 .authorityWrite bs
  | 0x63 => some .restart
  | _ => none

/-- The command a word of the opcode table spells: the table gives no row of this block any bits, so none. -/
def decodeTableWord (_nbits _w : Nat) : Option Instr := none

end Sys2Proof
end

