-- ==== Sys2Proof/Config.lean ====
section
/-! DEFINITION. What the part fixes (sizes, rates, limits) and the values the manual leaves open (opaque constants
without a body, so that no proof can see them). -/

namespace Sys2Proof

/-- Ticks of the 27 MHz site clock in a second (chapter 4). -/
abbrev ticksPerSecond : Nat := 27000000

/-- Ticks in a millisecond, 27,000 (R63, R165). -/
abbrev ticksPerMs : Nat := 27000

/-- Slots of one delay-store ring (1.3). -/
abbrev ringSlots : Nat := 16384

/-- Records one group table holds at most (R12, R18). -/
abbrev tableRecords : Nat := 64

/-- A stale record has stood this many ticks since its cadence arrival (R30). -/
abbrev staleTicks : Nat := 54000000

/-- The product 1,504 × 27,000,000 of the pacer (R52). -/
abbrev pacerN : Nat := 40608000000

/-- Entries the Stream Table holds at most (R95). -/
abbrev streamEntries : Nat := 128

/-- Cues a cue list holds at most (R108). -/
abbrev cueListMax : Nat := 8

/-- The cue window in 90 kHz units (R110). -/
abbrev cueWindow : Nat := 180000

/-- Ticks beyond the planned length at which a return is forced (R116, R121). -/
abbrev forcedMargin : Nat := 54000000

/-- Packet places of one clip page (7.1). -/
abbrev pagePackets : Nat := 256

/-- Clip memory pages (7.1). -/
abbrev clipPages : Nat := 8192

/-- Packets the load write buffer holds at most (7.3). -/
abbrev writeBufferMax : Nat := 64

/-- Packets a prefetch queue holds at most (R143). -/
abbrev prefetchMax : Nat := 16

/-- Packets the monitor queue holds at most (R191). -/
abbrev monitorMax : Nat := 64

/-- Samples the trace ring holds at most (R182). -/
abbrev traceMax : Nat := 512

/-- Local ticks without a pulse after which the missing-pulse timer expires (R71). -/
abbrev missingPulseTicks : Nat := 29700000

/-- FREE VALUE. Which of several events that fall due together the part takes first, where the manual says that
"either may be taken first" (R4, R16, R29, R36, R163, R164 and others). The number is read modulo how many are due.
Log entry 3. -/
opaque Config.raceOrder : Nat → Nat

/-- FREE VALUE. How many local-oscillator ticks pass during one site tick while the reference is LOCKED and site ticks
come from REF 10 MHz (R68): the manual relates the two clocks by no rule. Log entry 2. -/
opaque Config.localTicksInLockedTick : Nat → Nat

/-- FREE VALUE. What a place of clip memory that nothing has written holds: "undefined" (R148). Log entry 5. -/
opaque Config.undefinedPlace : Nat → Packet

/-- FREE VALUE. What a place of the tag store that nothing has written holds: "undefined" (R148). Log entry 5. -/
opaque Config.undefinedTag : Nat → Nat

end Sys2Proof
end

