-- ==== Sys2Proof/Machine/State.lean ====
section
/-! DEFINITION. The state of the S640, block by block (00_scope, "The blocks of the S640"), and the machine right after
reset (R197 and the power-on rules it names).

Everything here is plain data. An EMPTY ring slot, a FREE clip record's fields and the EMPTY snapshot are not stored.
Counters are 32-bit and stop at their largest value (10.3); the accounting counters count modulo 2^48 (R18). -/

namespace Sys2Proof.Machine

/-! ### Feed Intake (chapter 1) -/

/-- The link states of a framer (1.1). -/
inductive Link where
  | absent
  | searching
  | locked
  | bridging
  | lost
deriving DecidableEq, Repr

/-- A running bridging or absence timer: it counts site time from `start` and expires after `interval` ticks (R3, R5). -/
structure Timer where
  start : SiteTime
  interval : Nat
deriving DecidableEq, Repr

/-- The intake counters of a port (R8); a port that does not keep one of them leaves it 0. -/
structure IntakeCounters where
  taken : Nat
  syncErrors : Nat
  transportErrors : Nat
  outages : Nat
  losses : Nat
  cadenceBad : Nat
  duplicateCadences : Nat
  groupTableFull : Nat
  shortGroups : Nat
  overflowDrops : Nat
  orphans : Nat
  latePositions : Nat
  ignored : Nat
deriving DecidableEq, Repr

def IntakeCounters.zero : IntakeCounters := ⟨0, 0, 0, 0, 0, 0, 0, 0, 0, 0, 0, 0, 0⟩

/-- One port's framer (1.1): its link state, whether its line carries signal, the consecutive bad sync bytes (R2), the
bridging or absence timer, the bridging setting as written (R3) and the intake counters. -/
structure Framer where
  link : Link
  signal : Bool
  badSync : Nat
  timer : Option Timer
  bridgingSetting : Nat
  counters : IntakeCounters
deriving DecidableEq, Repr

/-- A feed's current open group: its cadence number and the next-position counter (R13, R14). -/
structure OpenGroup where
  number : Cadence
  next : Nat
deriving DecidableEq, Repr

structure FeedIntake where
  framers : PerPort Framer
  openGroups : PerFeed (Option OpenGroup)
deriving DecidableEq, Repr

/-! ### Delay Store (chapter 1) -/

/-- The states of an occupied slot (1.3); an EMPTY slot is one the ring does not list. -/
inductive SlotState where
  | held
  | releasedPendingFree
deriving DecidableEq, Repr

/-- An occupied slot of a ring (1.3); group and position are absent in MFN mode. -/
structure Slot where
  index : Nat
  state : SlotState
  packet : Packet
  arrival : SiteTime
  group : Option Cadence
  position : Option Nat
deriving DecidableEq, Repr

/-- A ring: its occupied slots in the order they were written, which is ring order, and the write index (R9). -/
structure Ring where
  slots : List Slot
  writeIndex : Nat
deriving DecidableEq, Repr

/-- The states of a record that stands in its table (R13 to R16); at DONE or DISCARDED it leaves (R17). -/
inductive GroupState where
  | filling
  | complete
  | short
  | releasing
deriving DecidableEq, Repr

/-- The window verdict (R25). -/
inductive Verdict where
  | onTime
  | late
  | early
deriving DecidableEq, Repr

/-- A group record (R13), with the index of the next position to release (R16). -/
structure GroupRecord where
  number : Cadence
  length : Nat
  received : Nat
  release : SiteTime
  firstSlot : Option Nat
  arrival : SiteTime
  state : GroupState
  verdict : Verdict
  missing : Nat
  nextPosition : Nat
deriving DecidableEq, Repr

/-- The accounting counters of a feed, 48 bits, modulo 2^48 (R18). -/
structure Accounting where
  taken : BitVec 48
  released : BitVec 48
  discarded : BitVec 48
  dropped : BitVec 48
deriving DecidableEq, Repr

/-- The rings, the group tables (in the order of arrival of their cadence packets, R12) and the accounting counters. -/
structure DelayStore where
  rings : PerFeed Ring
  tables : PerFeed (List GroupRecord)
  accounts : PerFeed Accounting
deriving DecidableEq, Repr

/-! ### Release Engine (chapter 2) -/

/-- The mode of the site (R45). -/
inductive Mode where
  | sfn
  | mfn
deriving DecidableEq, Repr

/-- The group being released: the chosen record's feed and its number (R28). -/
structure Releasing where
  feed : Feed
  number : Cadence
deriving DecidableEq, Repr

/-- The counters of R47. -/
structure ReleaseCounters where
  lateA : Nat
  lateB : Nat
  earlyA : Nat
  earlyB : Nat
  groupsStarted : Nat
  perGroupFallbacks : Nat
  lateStarts : Nat
  skippedNumbers : Nat
  passedGroups : Nat
  staleRecords : Nat
  twinPositions : Nat
  gapPositions : Nat
  overlapPositions : Nat
  changeovers : Nat
  reverts : Nat
  mfnIdleSlots : Nat
deriving DecidableEq, Repr

def ReleaseCounters.zero : ReleaseCounters := ⟨0, 0, 0, 0, 0, 0, 0, 0, 0, 0, 0, 0, 0, 0, 0, 0⟩

/-- The state the Release Engine owns (chapter 2, opening list), the mode and the candidate (R26). The revert timer is
the site time from which it counts, none while it is stopped (R37). -/
structure ReleaseEngine where
  mode : Mode
  selected : Feed
  preferred : Feed
  revertive : Bool
  revertHold : Nat
  revertTimer : Option SiteTime
  changeoverPending : Bool
  revertPending : Bool
  candidate : Option Cadence
  releasing : Option Releasing
  lastStarted : Option Cadence
  lastGroupStart : Option SiteTime
  readIndex : PerFeed Nat
  lastReleasedArrival : Option SiteTime
  counters : ReleaseCounters
deriving DecidableEq, Repr

/-! ### Departure Timer (chapter 3) -/

/-- The pacer while a rate is in use: that rate, q, r and the accumulator a (R52, R53). -/
structure Pacer where
  rate : Nat
  quotient : Nat
  remainder : Nat
  acc : Nat
deriving DecidableEq, Repr

/-- A value scheduled for a cadence number (R61). -/
structure PendingRate where
  rate : Nat
  cadence : Cadence
deriving DecidableEq, Repr

structure PendingOffset where
  offset : Int
  cadence : Cadence
deriving DecidableEq, Repr

/-- The counters of R66. -/
structure DepartureCounters where
  slots : Nat
  rateChanges : Nat
  offsetChanges : Nat
  pendingReplaced : Nat
  clockCorrected : Nat
deriving DecidableEq, Repr

def DepartureCounters.zero : DepartureCounters := ⟨0, 0, 0, 0, 0⟩

/-- The Departure Timer (chapter 3, opening list). `reanchor` marks a rate set in MFN mode that takes effect at the next
slot (R58, R59). The nominal delay Dn is kept in ticks (R63). -/
structure DepartureTimer where
  rate : Option Nat
  pacer : Option Pacer
  reanchor : Bool
  nextSlot : Option SiteTime
  offset : Int
  nominalDelay : Nat
  pendingRate : Option PendingRate
  pendingOffset : Option PendingOffset
  counters : DepartureCounters
deriving DecidableEq, Repr

/-! ### Timing Unit (chapter 4) -/

/-- The basis of a qualification (R73). -/
inductive Basis where
  | free
  | holdover
  | expired
deriving DecidableEq, Repr

/-- The reference state, QUALIFYING with its basis (R68, R73). -/
inductive RefState where
  | free
  | qualifying (basis : Basis)
  | locked
  | holdover
  | expired
deriving DecidableEq, Repr

/-- What is kept of the last pulse: the captured local tick count and the seconds value it carried (R71, R72). -/
structure Pulse where
  localTick : Nat
  value : Option Seconds
deriving DecidableEq, Repr

/-- The holdover length: base, remainder, n and the accumulator b (R78). -/
structure HoldLength where
  base : Nat
  remainder : Nat
  n : Nat
  acc : Nat
deriving DecidableEq, Repr

/-- The holdover second in progress: its length and how many local ticks of it have passed (R79). -/
structure HoldSecond where
  length : Nat
  passed : Nat
deriving DecidableEq, Repr

/-- The counters of R86. -/
structure TimingCounters where
  pulses : Nat
  good : Nat
  badCount : Nat
  badTime : Nat
  freqAbsent : Nat
  missing : Nat
  phaseFaults : Nat
  freqLosses : Nat
  holdoverEntries : Nat
  locks : Nat
  steps : Nat
deriving DecidableEq, Repr

def TimingCounters.zero : TimingCounters := ⟨0, 0, 0, 0, 0, 0, 0, 0, 0, 0, 0⟩

/-- The Timing Unit (chapter 4, opening list), the local tick count (4.1), whether the missing-pulse timer runs (R71) and
whether REF 10 MHz is present (R72). `holdSecond` is none outside holdover timekeeping and in the second that was in
progress when HOLDOVER was entered (R78). -/
structure TimingUnit where
  time : SiteTime
  ref : RefState
  run : Nat
  localTicks : Nat
  lastPulse : Option Pulse
  missingTimer : Bool
  lastTimeValue : Option Seconds
  history : List Nat
  hold : HoldLength
  holdSecond : Option HoldSecond
  elapsed : Nat
  limit : Nat
  lastPhase : Int
  lastStep : Int
  lockedSincePowerOn : Bool
  freq10 : Bool
  counters : TimingCounters
deriving DecidableEq, Repr

/-! ### Stream Table (chapter 5) -/

/-- PASS or DROP (5.1). -/
inductive Action where
  | pass
  | drop
deriving DecidableEq, Repr

/-- An entry (5.1). -/
structure StreamEntry where
  inPid : Pid
  action : Action
  outPid : Option Pid
  managed : Bool
  carrier : Bool
  check : Bool
  lastIn : Option Continuity
  lastOut : Option Continuity
  released : Nat
  dropped : Nat
  errors : Nat
deriving DecidableEq, Repr

/-- The entries in ascending order of input PID, the default action and the table counters (R102). -/
structure StreamTable where
  entries : List StreamEntry
  default : Action
  defaultPasses : Nat
  defaultDrops : Nat
  shadowedDrops : Nat
deriving DecidableEq, Repr

/-! ### Splice Controller (chapters 6 and 8) -/

inductive ChannelState where
  | disabled
  | network
  | armed
  | out
  | returning
deriving DecidableEq, Repr

/-- The substitution state of a component (6.1). -/
inductive Substitution where
  | waiting
  | substituting
  | returned
deriving DecidableEq, Repr

/-- A cue that waits in a cue list (6.3): always an OUT cue, with its clip id, window base and return override. -/
structure ListedCue where
  event : Nat
  time : Option Pts
  duration : Option Nat
  avail : Nat
  clip : Nat
  windowBase : Option Pts
  returnOverride : Option Pts
deriving DecidableEq, Repr

/-- What is learned at splice-out (6.1, R116, R153). -/
structure SpliceOut where
  pts : Pts
  offset : Pts
  returnTime : Pts
  siteTime : SiteTime
  forcedAt : SiteTime
  forced : Bool
deriving DecidableEq, Repr

/-- The active splice record (6.1) with the armed cue's window base (R115); the last part is set at splice-out. -/
structure ActiveSplice where
  event : Nat
  clip : Nat
  time : Option Pts
  duration : Option Nat
  windowBase : Option Pts
  returnOverride : Option Pts
  out : Option SpliceOut
deriving DecidableEq, Repr

/-- The cue counters (R129) and substitution counters (R160) of a channel. -/
structure ChannelCounters where
  cuesTaken : Nat
  badCuePackets : Nat
  unmatched : Nat
  overflow : Nat
  replaced : Nat
  duplicates : Nat
  missed : Nat
  cancelled : Nat
  insIgnored : Nat
  cancelsIgnored : Nat
  disarms : Nat
  spliceOuts : Nat
  returns : Nat
  forcedReturns : Nat
  clipPlayed : Nat
  exhaustedNulls : Nat
  underrunNulls : Nat
  clocksStuffed : Nat
  timestampsRebased : Nat
  abandoned : Nat
deriving DecidableEq, Repr

def ChannelCounters.zero : ChannelCounters :=
  ⟨0, 0, 0, 0, 0, 0, 0, 0, 0, 0, 0, 0, 0, 0, 0, 0, 0, 0, 0, 0⟩

/-- A splice channel (6.1): its configuration (the component count is the length of `pids`), state, last released primary
PTS, cue list, active splice record, the substitution state of its components, and its counters. -/
structure Channel where
  enabled : Bool
  cuePid : Option Pid
  pids : List Pid
  state : ChannelState
  lastPts : Option Pts
  list : List ListedCue
  active : Option ActiveSplice
  subst : Vector Substitution 4
  counters : ChannelCounters
deriving DecidableEq, Repr

/-- An entry of the cue match table (R107): the mask holds channel c at bit c. -/
structure CueMatch where
  enabled : Bool
  avail : Nat
  mask : BitVec 4
  clip : Option Nat
deriving DecidableEq, Repr

structure SpliceController where
  channels : Vector Channel 4
  cueMatches : Vector CueMatch 8
deriving DecidableEq, Repr

/-! ### Clip Memory Controller (chapter 7) -/

/-- An addressed store in canonical form: cells in strictly rising order of address; an address with no cell was never
written. The clip DRAM and the tag store are addressed by packet place, 256 × page + place (7.1). -/
abbrev Memory (α : Type) : Type := List (Nat × α)

inductive ClipState where
  | free
  | loading
  | ready
  | deletePending
deriving DecidableEq, Repr

/-- A record of the clip directory (7.2). -/
structure ClipRecord where
  state : ClipState
  id : Nat
  use : Nat
  pages : List Nat
  count : Nat
  declared : Nat
  components : Nat
  firstPts : Vector (Option Pts) 4
  duration : Nat
  crc : BitVec 32
deriving DecidableEq, Repr

/-- A FREE record holds no id, no pages and no fields of account (7.2). -/
def ClipRecord.freed : ClipRecord :=
  { state := .free, id := 0, use := 0, pages := [], count := 0, declared := 0, components := 0,
    firstPts := Vector.replicate 4 none, duration := 0, crc := 0#32 }

inductive LoadState where
  | closed
  | opened
  | draining
deriving DecidableEq, Repr

/-- An accepted packet that waits to be written to its stored position (R135). -/
structure BufferedPacket where
  position : Nat
  packet : Packet
deriving DecidableEq, Repr

/-- The load context (7.3). -/
structure LoadContext where
  state : LoadState
  record : Fin 64
  map : List Pid
  crc : BitVec 32
  excess : Bool
  buffer : List BufferedPacket
deriving DecidableEq, Repr

/-- The running CRC at its initial value (R186), an empty map and buffer. -/
def LoadContext.closed : LoadContext :=
  { state := .closed, record := 0, map := [], crc := 0xFFFFFFFF#32, excess := false, buffer := [] }

/-- A component's prefetch queue, read pointer (none is "end") and clip-exhausted flag (R143). -/
structure Prefetch where
  queue : List Packet
  pointer : Option Nat
  exhausted : Bool
deriving DecidableEq, Repr

def Prefetch.atPowerOn : Prefetch := { queue := [], pointer := none, exhausted := true }

/-- The transfer of the memory slot in progress (R144); one that is not live completes without effect (R139, R143). -/
inductive Transfer where
  | read (component : Fin 16) (live : Bool)
  | write (live : Bool)
deriving DecidableEq, Repr

/-- The last load outcome (R146). -/
inductive LoadOutcome where
  | loaded
  | count
  | crc
  | noTimestamp
  | overrun
  | portLoss
  | abandoned
  | restart
deriving DecidableEq, Repr

/-- The counters of R147. -/
structure ClipCounters where
  loadsBegun : Nat
  clipsLoaded : Nat
  loadsFailed : Nat
  accepted : Nat
  excess : Nat
  loadWrites : Nat
  prefetchReads : Nat
  deletes : Nat
  deferredDeletes : Nat
deriving DecidableEq, Repr

def ClipCounters.zero : ClipCounters := ⟨0, 0, 0, 0, 0, 0, 0, 0, 0⟩

/-- The Clip Memory Controller (chapter 7, opening list). `prefetch` holds component k of channel c at 4c + k; the
round-robin order of R144 begins at `roundRobin`. -/
structure ClipController where
  dram : Memory Packet
  tags : Memory Nat
  freeList : List Nat
  directory : Vector ClipRecord 64
  load : LoadContext
  prefetch : Vector Prefetch 16
  transfer : Option Transfer
  roundRobin : Fin 16
  lastOutcome : Option (LoadOutcome × Nat)
  counters : ClipCounters
deriving DecidableEq, Repr

/-! ### Supervision Unit (chapters 9 and 10) -/

/-- RUN, HOLD or STOP: the MGMT factor's value and the requested gate state (R161, R172). -/
inductive Gate where
  | run
  | hold
  | stop
deriving DecidableEq, Repr

/-- The effective gate state (9.2). -/
inductive Effective where
  | stopped
  | starting
  | holding
  | running
deriving DecidableEq, Repr

/-- An action of the action table, and the class of a diagnosis factor: CONTINUE stands for a clear factor (R169). -/
inductive DiagAction where
  | continue
  | hold
  | stop
deriving DecidableEq, Repr

/-- The 26 event flags, in the order of the table of 9.4. -/
inductive EventFlag where
  | feedALocked
  | feedALost
  | feedBLocked
  | feedBLost
  | portLLost
  | changeover
  | revert
  | groupLate
  | groupEarly
  | groupOverlap
  | cadenceMissing
  | storeOverflow
  | refLocked
  | refHoldover
  | refExpired
  | refStep
  | spliceOut
  | spliceReturn
  | spliceForced
  | cueMissed
  | clipUnderrun
  | clipLoaded
  | clipLoadFailed
  | gateChanged
  | continuityError
  | mgmtRefused
deriving DecidableEq, Repr

/-- The trace quantities, in the order of the table of 10.2. -/
inductive Quantity where
  | storeFillA
  | storeFillB
  | selectedFeed
  | gateEffective
  | refState
  | refPhase
  | nullSlots
  | gapPositions
  | channelState0
  | channelState1
  | channelState2
  | channelState3
  | prefetchLow
  | monitorQueueFill
deriving DecidableEq, Repr

/-- The oldest record of a group table as the snapshot records it (R178). -/
structure OldestRecord where
  number : Cadence
  state : GroupState
  verdict : Verdict
  received : Nat
  missing : Nat
  release : SiteTime
deriving DecidableEq, Repr

/-- One group table in the snapshot: its number of records and its oldest record (R178). -/
structure TablePicture where
  records : Nat
  oldest : Option OldestRecord
deriving DecidableEq, Repr

/-- How a snapshot was taken: on command, or by a scan that set these diagnosis factors with class STOP (R178). -/
inductive Taking where
  | automatic (newStops : Vector Bool 9)
  | command
deriving DecidableEq, Repr

/-- The snapshot record (R178). `factors` are the factors set with their classes, numbered as the table of 9.1. -/
structure Snapshot where
  taking : Taking
  time : SiteTime
  scanNumber : BitVec 32
  links : PerPort Link
  intake : PerPort IntakeCounters
  selected : Feed
  fillA : Nat
  fillB : Nat
  tableA : TablePicture
  tableB : TablePicture
  requested : Gate
  effective : Effective
  factors : List (Nat × DiagAction)
  ref : RefState
  lastPhase : Int
  holdBase : Nat
  holdRemainder : Nat
  holdN : Nat
  channels : List (ChannelState × Nat)
  clips : List (Nat × Nat)
  flags : BitVec 26
deriving DecidableEq, Repr

/-- The snapshot's state, with the record it holds (R179). -/
inductive SnapshotState where
  | empty
  | held (record : Snapshot)
  | read (record : Snapshot)
deriving DecidableEq, Repr

inductive TraceState where
  | stopped
  | waiting
  | running
  | filled
deriving DecidableEq, Repr

/-- The trace configuration (10.2): the start is IMMEDIATE (none) or ON_FLAG. -/
structure TraceConfig where
  quantities : List Quantity
  divider : Nat
  oneShot : Bool
  onFlag : Option EventFlag
deriving DecidableEq, Repr

/-- A sample (R182): one value for each configured quantity; states and feeds are numbered as their tables list them. -/
structure Sample where
  scanNumber : BitVec 32
  time : SiteTime
  values : List (Quantity × Int)
deriving DecidableEq, Repr

/-- The trace (10.2), oldest sample first, with the divider count and the two tallies. -/
structure Trace where
  config : Option TraceConfig
  state : TraceState
  samples : List Sample
  samplesTaken : BitVec 32
  dividerCount : Nat
  nullSlots : Nat
  gapPositions : Nat
deriving DecidableEq, Repr

/-- The counters of R177 and 10.3. -/
structure SupervisionCounters where
  gateChanges : Nat
  noticesQueued : Nat
  snapshotsTaken : Nat
  snapshotsSkipped : Nat
  traceStarts : Nat
deriving DecidableEq, Repr

def SupervisionCounters.zero : SupervisionCounters := ⟨0, 0, 0, 0, 0⟩

/-- The Supervision Unit (chapters 9 and 10). The nine diagnosis conditions stand in the order of the table of R167. The
scan timer is the local tick count at which it started and the period of the interval running, in local ticks (R165). -/
structure Supervision where
  mgmt : Gate
  noRate : Bool
  timing : Bool
  factors : Vector DiagAction 9
  requested : Gate
  effective : Effective
  scanSetting : Nat
  scanStart : Nat
  scanPeriod : Nat
  scanNumber : BitVec 32
  actions : Vector DiagAction 9
  conditions : Vector Bool 9
  seenOverflow : Bool
  seenUnderrun : Bool
  seenContinuity : Bool
  flags : BitVec 26
  unmasked : BitVec 26
  alarm : Bool
  snapshot : SnapshotState
  trace : Trace
  counters : SupervisionCounters
deriving DecidableEq, Repr

/-! ### Management Unit (chapter 11) -/

/-- What a queued packet is (R191). -/
inductive MonitorKind where
  | reply
  | notice
deriving DecidableEq, Repr

/-- A packet of the monitor queue; its continuity count is written when it is sent (R191). -/
structure MonitorPacket where
  kind : MonitorKind
  packet : Packet
deriving DecidableEq, Repr

/-- The management counters (R197). -/
structure ManagementCounters where
  acceptedPortL : Nat
  acceptedFeeds : Nat
  crcFailures : Nat
  addressMismatches : Nat
  authorityRefusals : Nat
  unknownCommands : Nat
  repliesFormed : Nat
  replyPartsDropped : Nat
  noticesDropped : Nat
deriving DecidableEq, Repr

def ManagementCounters.zero : ManagementCounters := ⟨0, 0, 0, 0, 0, 0, 0, 0, 0⟩

/-- The Management Unit (chapter 11). The authority mask holds TIMING at bit 0 to SITE at bit 5 (R195). `continuity` is
the count the next packet sent on port M carries (R191). -/
structure Management where
  unitAddress : BitVec 12
  group0 : Nat
  group1 : Nat
  authority : BitVec 6
  queue : List MonitorPacket
  continuity : Continuity
  restartPending : Bool
  counters : ManagementCounters
deriving DecidableEq, Repr

/-! ### Lines and the model's own fields -/

/-- The RESET line, and what ports T and M last carried: `portT` what began in the latest departure slot (none: idle
fill), `portM` the packet sent last. The ALARM line is `Supervision.alarm`, the signal lines are in the framers, REF 10
MHz in the Timing Unit. -/
structure Lines where
  resetHeld : Bool
  portT : Option Packet
  portM : Option Packet
deriving DecidableEq, Repr

/-- The MODEL's own counters, which feed the free values of Config: how many coincidences have been decided, and how many
ticks have passed in LOCKED (log entries 2 and 3). -/
structure FreeCounters where
  races : Nat
  lockedTicks : Nat
deriving DecidableEq, Repr

/-- The whole machine, with the commands that wait, first in, first out. -/
structure State where
  fi : FeedIntake
  ds : DelayStore
  re : ReleaseEngine
  dt : DepartureTimer
  tu : TimingUnit
  st : StreamTable
  sc : SpliceController
  cm : ClipController
  su : Supervision
  mu : Management
  lines : Lines
  model : FreeCounters
  pending : List Instr
deriving DecidableEq, Repr

/-- Why a step stops with a fault. -/
inductive Fault where
  /-- A clip-memory transfer for a stored position that stands in no page of its record, or in a page outside 0..8,191:
  the address does not exist (7.1). Raised by PREFETCH_READ_COMPLETE and LOAD_WRITE_COMPLETE. SAFE: no record the part
  makes has such a position (R135, R134), so no run from reset raises it. -/
  | clipAddress
deriving DecidableEq, Repr

/-- Why a command is refused. -/
inductive Refusal where
  /-- A row of the table that has no meaning here; raised by no arm. SAFE. -/
  | notModelled (mnemonic : String)
deriving DecidableEq, Repr

/-! ### Power-on (R23, R24, R39, R48, R67, R87, R103, R130, R148, R177, R179, R183, R197) -/

/-- A framer at power-on: SEARCHING if its port receives signal, else ABSENT (R23). No rule gives its run of bad sync bytes: 0 (DESIGN
CHOICE, log entry 21). -/
def Framer.atPowerOn (signal : Bool) : Framer :=
  { link := if signal then .searching else .absent, signal, badSync := 0, timer := none, bridgingSetting := 0,
    counters := .zero }

def FeedIntake.atPowerOn (signals : PerPort Bool) : FeedIntake :=
  { framers := ⟨.atPowerOn signals.a, .atPowerOn signals.b, .atPowerOn signals.l⟩, openGroups := ⟨none, none⟩ }

def Ring.emptied : Ring := { slots := [], writeIndex := 0 }

def Accounting.zero : Accounting := ⟨0#48, 0#48, 0#48, 0#48⟩

def DelayStore.emptied : DelayStore :=
  { rings := ⟨.emptied, .emptied⟩, tables := ⟨[], []⟩, accounts := ⟨.zero, .zero⟩ }

def ReleaseEngine.atPowerOn : ReleaseEngine :=
  { mode := .sfn, selected := .a, preferred := .a, revertive := true, revertHold := 10, revertTimer := none,
    changeoverPending := false, revertPending := false, candidate := none, releasing := none, lastStarted := none,
    lastGroupStart := none, readIndex := ⟨0, 0⟩, lastReleasedArrival := none, counters := .zero }

def DepartureTimer.atPowerOn : DepartureTimer :=
  { rate := none, pacer := none, reanchor := false, nextSlot := none, offset := 0, nominalDelay := 2700000,
    pendingRate := none, pendingOffset := none, counters := .zero }

def TimingUnit.atPowerOn (freq10 : Bool) : TimingUnit :=
  { time := ⟨0#32, 0⟩, ref := .free, run := 0, localTicks := 0, lastPulse := none, missingTimer := false,
    lastTimeValue := none, history := [], hold := ⟨27000000, 0, 1, 0⟩, holdSecond := none, elapsed := 0, limit := 3600,
    lastPhase := 0, lastStep := 0, lockedSincePowerOn := false, freq10, counters := .zero }

def StreamTable.atPowerOn : StreamTable :=
  { entries := [], default := .pass, defaultPasses := 0, defaultDrops := 0, shadowedDrops := 0 }

def Channel.atPowerOn : Channel :=
  { enabled := false, cuePid := none, pids := [], state := .disabled, lastPts := none, list := [], active := none,
    subst := Vector.replicate 4 .returned, counters := .zero }

def SpliceController.atPowerOn : SpliceController :=
  { channels := Vector.replicate 4 .atPowerOn,
    cueMatches := Vector.replicate 8 { enabled := false, avail := 0, mask := 0#4, clip := none } }

def ClipController.atPowerOn : ClipController :=
  { dram := [], tags := [], freeList := List.range clipPages, directory := Vector.replicate 64 .freed, load := .closed,
    prefetch := Vector.replicate 16 .atPowerOn, transfer := none, roundRobin := 0, lastOutcome := none,
    counters := .zero }

/-- The action table's defaults (R167): NO_FEED and CADENCE_ABSENT HOLD, REF_EXPIRED_STATE STOP, the others CONTINUE. -/
def Supervision.defaultActions : Vector DiagAction 9 :=
  #v[.continue, .continue, .hold, .continue, .stop, .hold, .continue, .continue, .continue]

/-- R183. The divider count and both tallies are 0 (DESIGN CHOICE, log entry 21). -/
def Trace.atPowerOn : Trace :=
  { config := none, state := .stopped, samples := [], samplesTaken := 0#32, dividerCount := 0, nullSlots := 0,
    gapPositions := 0 }

def Supervision.atPowerOn : Supervision :=
  { mgmt := .run, noRate := true, timing := true, factors := Vector.replicate 9 .continue, requested := .stop,
    effective := .stopped, scanSetting := 0, scanStart := 0, scanPeriod := 2700000, scanNumber := 0#32,
    actions := Supervision.defaultActions, conditions := Vector.replicate 9 false, seenOverflow := false, seenUnderrun := false,
    seenContinuity := false, flags := 0#26, unmasked := 0#26, alarm := false, snapshot := .empty, trace := .atPowerOn,
    counters := .zero }

/-- The mask after power-on holds every class but SITE (R197). -/
def Management.atPowerOn (pins : BitVec 12) : Management :=
  { unitAddress := pins, group0 := 0, group1 := 0, authority := 0b011111#6, queue := [], continuity := 0#4,
    restartPending := false, counters := .zero }

/-- Every block as power-on leaves it (R197), the input lines reading as given. -/
def State.atPowerOn (pins : BitVec 12) (signals : PerPort Bool) (freq10 : Bool) : State :=
  { fi := .atPowerOn signals, ds := .emptied, re := .atPowerOn, dt := .atPowerOn, tu := .atPowerOn freq10,
    st := .atPowerOn, sc := .atPowerOn, cm := .atPowerOn, su := .atPowerOn, mu := .atPowerOn pins,
    lines := { resetHeld := false, portT := none, portM := none }, model := { races := 0, lockedTicks := 0 },
    pending := [] }

/-- The machine right after reset: RESET released, with every input line quiet (no signal at a port, no REF 10 MHz) and
every ADDR pin low. DESIGN CHOICE (log entry 1): the manual leaves the lines to the site. -/
def State.reset : State := State.atPowerOn 0#12 ⟨false, false, false⟩ false

end Sys2Proof.Machine
end

