-- ==== Sys2Proof/Machine/Ops.lean ====
section
/-! DEFINITION. The shared operations: saturating counters (10.3), the arithmetic of site time (R49, R116) and of PTS
(R104), cadence order (R26, R28, R62), addressed stores (7.1), and the updates of indexed state. -/

namespace Sys2Proof.Machine

/-- A 32-bit counter's largest value (10.3). -/
abbrev counterMax : Nat := 4294967295

/-- A counter incremented by `n`; it stops at its largest value (10.3). -/
def countBy (c n : Nat) : Nat := min (c + n) counterMax

/-- A counter incremented once. -/
def count (c : Nat) : Nat := countBy c 1

/-- A counter incremented once where `b` holds. -/
def countIf (b : Bool) (c : Nat) : Nat := if b then count c else c

/-- `x` held within `lo`..`hi` (R46, R60, R63, R85). -/
def clamp (lo hi x : Nat) : Nat := max lo (min hi x)

/-- `x` held within `lo`..`hi`, signed. -/
def clampInt (lo hi x : Int) : Int := max lo (min hi x)

/-! ### Site time -/

/-- The difference X − Y of two site times in full ticks, the seconds difference read as a signed number (R49). -/
def siteDiff (x y : SiteTime) : Int :=
  (x.sec - y.sec).toInt * 27000000 + ((x.tick : Int) - y.tick)

/-- X is at or after Y (R49). -/
def atOrAfter (x y : SiteTime) : Bool := 0 ≤ siteDiff x y

/-- X is before Y (R49). -/
def isBefore (x y : SiteTime) : Bool := siteDiff x y < 0

/-- X is after Y and not equal to it (R49). -/
def isAfter (x y : SiteTime) : Bool := 0 < siteDiff x y

/-- The site time `k` ticks after X: the tick modulo 27,000,000, the carry into the seconds modulo 2^32. For `k` within
±27,000,000 this is the single carry of R49; for a larger `k` it is the carry of R116. -/
def addTicks (x : SiteTime) (k : Int) : SiteTime :=
  { sec := x.sec + BitVec.ofInt 32 (((x.tick : Int) + k) / 27000000)
    tick := (((x.tick : Int) + k) % 27000000).toNat }

/-! ### Cadence numbers and PTS -/

/-- `m` is after `n`: (m − n) mod 65,536 lies in 1..32,767 (R26). -/
def cadenceAfter (m n : Cadence) : Bool :=
  1 ≤ (m - n).toNat && (m - n).toNat ≤ 32767

/-- A change tagged `n` is due at the start of `s`: (s − n) mod 65,536 lies in 0..32,767 (R62). -/
def cadenceDue (s n : Cadence) : Bool :=
  (s - n).toNat ≤ 32767

/-- PTS x is at or after y (R104). -/
def ptsAtOrAfter (x y : Pts) : Bool := (x - y).toNat < 2 ^ 32

/-- PTS x is after y: at or after, and not equal (R104). -/
def ptsAfter (x y : Pts) : Bool := ptsAtOrAfter x y && x != y

/-- y + k for a number of 90 kHz units k, modulo 2^33 (R104). -/
def ptsAdd (y : Pts) (k : Nat) : Pts := y + BitVec.ofNat 33 k

/-- The forward distance of a splice time from x, read as a signed number (R109). -/
def forwardDistance (s x : Pts) : Int := (s - x).toInt

/-! ### Addressed stores (7.1) -/

/-- What the store holds at address `a`; none where nothing has been written. -/
def Memory.read {α : Type} (m : Memory α) (a : Nat) : Option α :=
  (m.find? fun c => c.1 == a).map (·.2)

/-- The store with `v` at address `a`. -/
def Memory.write {α : Type} : Memory α → Nat → α → Memory α
  | [], a, v => [(a, v)]
  | c :: rest, a, v =>
    if a < c.1 then (a, v) :: c :: rest
    else if a = c.1 then (a, v) :: rest
    else c :: Memory.write rest a v

/-- The canonical form: addresses strictly rising. -/
abbrev Memory.wf {α : Type} (m : Memory α) : Prop := m.Pairwise fun x y => x.1 < y.1

/-! ### Updates of indexed state -/

/-- The vector with `x` at index `i`. -/
def setAt {α : Type} {n : Nat} (v : Vector α n) (i : Fin n) (x : α) : Vector α n := v.set i.val x i.isLt

/-- The value at index `i`. -/
def getAt {α : Type} {n : Nat} (v : Vector α n) (i : Fin n) : α := v[i.val]'i.isLt

/-- The vector with the value at `i` changed by `f`. -/
def modifyAt {α : Type} {n : Nat} (v : Vector α n) (i : Fin n) (f : α → α) : Vector α n := setAt v i (f (getAt v i))

/-- The list with its first element that meets `p` changed by `f`. -/
def modifyFirst {α : Type} (p : α → Bool) (f : α → α) : List α → List α
  | [] => []
  | x :: rest => if p x then f x :: rest else x :: modifyFirst p f rest

/-- The list without its first element that meets `p`. -/
def removeFirst {α : Type} (p : α → Bool) : List α → List α
  | [] => []
  | x :: rest => if p x then rest else x :: removeFirst p rest

/-- Channel `c`. -/
def State.channel (s : State) (c : Fin 4) : Channel := getAt s.sc.channels c

/-- Channel `c` changed by `f`. -/
def State.modifyChannel (s : State) (c : Fin 4) (f : Channel → Channel) : State :=
  { s with sc := { s.sc with channels := modifyAt s.sc.channels c f } }

/-- Clip record `i`. -/
def ClipController.record (m : ClipController) (i : Fin 64) : ClipRecord := getAt m.directory i

/-- Clip record `i` changed by `f`. -/
def ClipController.modifyRecord (m : ClipController) (i : Fin 64) (f : ClipRecord → ClipRecord) : ClipController :=
  { m with directory := modifyAt m.directory i f }

/-- The index of component `k` of channel `c` among the sixteen, 4c + k (R144). -/
def componentIndex (c k : Fin 4) : Fin 16 := ⟨4 * c.val + k.val, by omega⟩

/-- The framer of port `p`. -/
def State.framer (s : State) (p : Port) : Framer := s.fi.framers.get p

/-- The framer of port `p` changed by `f`. -/
def State.modifyFramer (s : State) (p : Port) (f : Framer → Framer) : State :=
  { s with fi := { s.fi with framers := s.fi.framers.set p (f (s.fi.framers.get p)) } }

/-- The intake counters of port `p` changed by `f` (R8). -/
def State.countIntake (s : State) (p : Port) (f : IntakeCounters → IntakeCounters) : State :=
  s.modifyFramer p fun x => { x with counters := f x.counters }

/-- The accounting counters of feed `f` changed by `g` (R18). -/
def State.account (s : State) (f : Feed) (g : Accounting → Accounting) : State :=
  { s with ds := { s.ds with accounts := s.ds.accounts.set f (g (s.ds.accounts.get f)) } }

/-- The Release Engine's counters changed by `f` (R47). -/
def State.countRelease (s : State) (f : ReleaseCounters → ReleaseCounters) : State :=
  { s with re := { s.re with counters := f s.re.counters } }

/-- The Timing Unit's counters changed by `f` (R86). -/
def State.countTiming (s : State) (f : TimingCounters → TimingCounters) : State :=
  { s with tu := { s.tu with counters := f s.tu.counters } }

/-- The counters of channel `c` changed by `f` (R129, R160). -/
def State.countChannel (s : State) (c : Fin 4) (f : ChannelCounters → ChannelCounters) : State :=
  s.modifyChannel c fun x => { x with counters := f x.counters }

/-- The Clip Memory Controller's counters changed by `f` (R147). -/
def State.countClip (s : State) (f : ClipCounters → ClipCounters) : State :=
  { s with cm := { s.cm with counters := f s.cm.counters } }

end Sys2Proof.Machine
end

