-- ==== Sys2Proof/Machine/Operands.lean ====
section
/-! DEFINITION. The fields of a transport packet (11.6), the CRC-32 (R186), the timing read from a released packet (R104),
the clock reference (R64, R65, R152), and the packets the S640 makes (R44, R190, R192). -/

namespace Sys2Proof.Machine

/-! ### CRC-32 (R186) -/

/-- The register after one bit place. -/
def crcShift (r : BitVec 32) : BitVec 32 :=
  if r.msb then (r <<< 1) ^^^ 0x04C11DB7#32 else r <<< 1

/-- The register after one byte, most significant bit first. -/
def crcByte (r : BitVec 32) (b : Byte) : BitVec 32 :=
  crcShift (crcShift (crcShift (crcShift (crcShift (crcShift (crcShift (crcShift (r ^^^ (b.setWidth 32 <<< 24)))))))))

/-- The register carried on over some bytes. -/
def crcOver (r : BitVec 32) (bs : List Byte) : BitVec 32 := bs.foldl crcByte r

/-- The CRC-32 of some bytes: all ones before the first, no final inversion. -/
def crc32 (bs : List Byte) : BitVec 32 := crcOver 0xFFFFFFFF#32 bs

/-- A payload with its CRC-32 after it. -/
def withCrc (bs : List Byte) : List Byte := bs ++ toBytes 4 (crc32 bs).toNat

/-! ### Header fields (11.6) -/

/-- Byte `i` of a packet or payload; 0 past its end. -/
def byteAt (p : List Byte) (i : Nat) : Byte := p.getD i 0#8

/-- Bit `b` of byte `i`. -/
def bitAt (p : List Byte) (i b : Nat) : Bool := (byteAt p i).getLsbD b

/-- The number in the `n` bytes from offset `o`. -/
def fieldAt (p : List Byte) (o n : Nat) : Nat := fromBytes ((p.drop o).take n)

def transportError (p : Packet) : Bool := bitAt p 1 7

def payloadStart (p : Packet) : Bool := bitAt p 1 6

/-- The PID: bits 4..0 of byte 1 and all of byte 2. -/
def pidOf (p : Packet) : Pid := (byteAt p 1).toNat % 32 * 256 + (byteAt p 2).toNat

def scrambling (p : Packet) : Nat := (byteAt p 3).toNat / 64

def adaptationPresent (p : Packet) : Bool := bitAt p 3 5

def payloadPresent (p : Packet) : Bool := bitAt p 3 4

def continuityOf (p : Packet) : Continuity := (byteAt p 3).setWidth 4

def adaptationLength (p : Packet) : Nat := (byteAt p 4).toNat

/-- Where the payload begins: byte 4, or byte 5 plus the adaptation field length. -/
def payloadOffset (p : Packet) : Nat := if adaptationPresent p then 5 + adaptationLength p else 4

/-- The payload's bytes; none where the payload flag is clear. -/
def payloadOf (p : Packet) : List Byte := if payloadPresent p then p.drop (payloadOffset p) else []

/-- The packet with another PID, its other header bits kept (R91). -/
def setPid (p : Packet) (pid : Pid) : Packet :=
  (p.set 1 (BitVec.ofNat 8 ((byteAt p 1).toNat / 32 * 32 + pid / 256 % 32))).set 2 (BitVec.ofNat 8 pid)

/-- The packet with another continuity count (R92). -/
def setContinuity (p : Packet) (c : Continuity) : Packet :=
  p.set 3 (BitVec.ofNat 8 ((byteAt p 3).toNat / 16 * 16 + c.toNat))

/-! ### Reserved identifiers -/

abbrev pidManagement : Pid := 8180
abbrev pidCadence : Pid := 8181
abbrev pidMonitor : Pid := 8182
abbrev pidNull : Pid := 8191

/-- 8180, 8181, 8182 and 8191 (5.1). -/
def reservedPid (p : Pid) : Bool := p == pidManagement || p == pidCadence || p == pidMonitor || p == pidNull

/-- A PID that may key an entry, be produced, be a component or be a cue PID (5.1, 6.1). -/
def usablePid (p : Pid) : Bool := p ≤ 8191 && !reservedPid p

/-! ### Random access and timestamps (R104) -/

/-- The adaptation field is present, its length is 1 or more, and its random-access flag is set. -/
def randomAccess (p : Packet) : Bool := adaptationPresent p && 1 ≤ adaptationLength p && bitAt p 5 6

/-- The 33 bits of a five-byte timestamp (11.6). -/
def timestampOf (bs : List Byte) : Pts :=
  BitVec.ofNat 33
    ((byteAt bs 0).toNat / 2 % 8 * 2 ^ 30 + (byteAt bs 1).toNat * 2 ^ 22 + (byteAt bs 2).toNat / 2 * 2 ^ 15
      + (byteAt bs 3).toNat * 2 ^ 7 + (byteAt bs 4).toNat / 2)

/-- The five bytes of a timestamp rewritten to `x`, its four-bit lead and its marker bits kept (R154). -/
def timestampBytes (bs : List Byte) (x : Pts) : List Byte :=
  let n := x.toNat
  [BitVec.ofNat 8 ((byteAt bs 0).toNat / 16 * 16 + n / 2 ^ 30 % 8 * 2 + (byteAt bs 0).toNat % 2),
   BitVec.ofNat 8 (n / 2 ^ 22),
   BitVec.ofNat 8 (n / 2 ^ 15 % 128 * 2 + (byteAt bs 2).toNat % 2),
   BitVec.ofNat 8 (n / 2 ^ 7),
   BitVec.ofNat 8 (n % 128 * 2 + (byteAt bs 4).toNat % 2)]

/-- The payload begins with an elementary-stream header that carries a PTS (R104). -/
def headerCarriesPts (payload : List Byte) : Bool :=
  14 ≤ payload.length && byteAt payload 0 == 0x00#8 && byteAt payload 1 == 0x00#8 && byteAt payload 2 == 0x01#8
    && bitAt payload 7 7 && 5 ≤ (byteAt payload 8).toNat

/-- The header carries a DTS as well (R104). -/
def headerCarriesDts (payload : List Byte) : Bool :=
  bitAt payload 7 6 && 10 ≤ (byteAt payload 8).toNat && 19 ≤ payload.length

/-- The packet's timestamps can be read (R104, R135, R154). -/
def carriesTimestamps (p : Packet) : Bool :=
  payloadStart p && payloadPresent p && !transportError p && scrambling p == 0 && headerCarriesPts (payloadOf p)

/-- The readable PTS of a packet (R104). -/
def readablePts (p : Packet) : Option Pts :=
  if carriesTimestamps p then some (timestampOf ((payloadOf p).drop 9)) else none

/-- The packet with the five bytes from offset `o` rewritten as a timestamp moved by `offset` (R154). -/
def rebaseAt (p : Packet) (o : Nat) (offset : Pts) : Packet :=
  p.take o ++ timestampBytes (p.drop o) (timestampOf (p.drop o) + offset) ++ p.drop (o + 5)

/-- The packet with its PTS, and its DTS if it carries one, moved by `offset`; and how many were moved (R154). -/
def rebase (p : Packet) (offset : Pts) : Packet × Nat :=
  if carriesTimestamps p then
    if headerCarriesDts (payloadOf p) then
      (rebaseAt (rebaseAt p (payloadOffset p + 9) offset) (payloadOffset p + 14) offset, 2)
    else (rebaseAt p (payloadOffset p + 9) offset, 1)
  else (p, 0)

/-! ### Clock references (R64, R65, R152) -/

/-- The modulus 2^33 × 300 of a clock reference (R65). -/
abbrev clockModulus : Nat := 2576980377600

/-- The packet carries a programme clock reference (R64). -/
def carriesClock (p : Packet) : Bool := adaptationPresent p && 7 ≤ adaptationLength p && bitAt p 5 4

/-- The clock reference as carried: base × 300 + extension (R65, 11.6). -/
def clockOf (p : Packet) : Nat :=
  fieldAt p 6 6 / 2 ^ 15 * 300 + fieldAt p 6 6 % 2 ^ 9

/-- The packet with its clock reference written, the six bits between base and extension kept (R65). -/
def setClock (p : Packet) (c : Nat) : Packet :=
  p.take 6 ++ toBytes 6 (c / 300 * 2 ^ 15 + fieldAt p 6 6 / 2 ^ 9 % 64 * 2 ^ 9 + c % 300) ++ p.drop 12

/-- The clock reference advanced by the residual e, modulo 2^33 × 300 (R65). -/
def correctClock (p : Packet) (e : Int) : Packet :=
  setClock p (((clockOf p : Int) + e) % clockModulus).toNat

/-- The clock reference turned into stuffing: its flag cleared, the rest of the adaptation field moved six places toward
the start, and six bytes of 0xFF after it (R152). Of a field of more than 183 bytes, which runs past the packet's end, the
bytes in the packet move and the packet's last six bytes become 0xFF (DESIGN CHOICE, log entry 35). -/
def stuffClock (p : Packet) : Packet :=
  (p.take 6).set 5 (byteAt p 5 &&& 0xEF#8) ++ (p.drop 12).take (adaptationLength p - 7) ++ List.replicate 6 0xFF#8
    ++ p.drop (5 + adaptationLength p)

/-! ### Packets the S640 makes -/

/-- A null packet made by the S640 (R44), bit 5 of its byte 1 being 0 (DESIGN CHOICE, log entry 42). -/
def nullPacket : Packet := [0x47#8, 0x1F#8, 0xFF#8, 0x10#8] ++ List.replicate 184 0xFF#8

/-- A packet of port M around a payload: PID 8182, payload start and payload present, stuffed with 0xFF; the continuity
count is written when it is sent (11.6). Bit 5 of byte 1, to which 11.6 gives no value, is 0 (DESIGN CHOICE, log entry 42). -/
def monitorPacket (payload : List Byte) : Packet :=
  [0x47#8, 0x5F#8, 0xF6#8, 0x10#8] ++ payload ++ List.replicate (184 - payload.length) 0xFF#8

/-- A notice (R192, 11.6). -/
def noticePacket (unit : BitVec 12) (flagNumber : Nat) (t : SiteTime) : Packet :=
  monitorPacket (withCrc
    (0x02#8 :: toBytes 2 unit.toNat ++ toBytes 1 flagNumber ++ toBytes 4 t.sec.toNat ++ toBytes 4 t.tick))

/-- One part of a reply (R190, 11.6). -/
def replyPacket (unit : BitVec 12) (tag code : Byte) (status part : Nat) (last : Bool) (data : List Byte) : Packet :=
  monitorPacket (withCrc
    (0x01#8 :: toBytes 2 unit.toNat ++ [tag, code] ++ toBytes 1 status ++ toBytes 1 part ++ toBytes 1 last.toNat
      ++ toBytes 1 data.length ++ data))

end Sys2Proof.Machine
end

