-- ==== Sys2Proof/Machine/Flags.lean ====
section
/-! DEFINITION. The event flags, the notices they queue and the ALARM line (9.4, R170, R171), the monitor queue (R191), the
replies (R190), and the transmit gate's derivation and alignment (R161 to R164). -/

namespace Sys2Proof.Machine

/-- The number of a flag (9.4). -/
def EventFlag.number : EventFlag → Nat
  | .feedALocked => 0
  | .feedALost => 1
  | .feedBLocked => 2
  | .feedBLost => 3
  | .portLLost => 4
  | .changeover => 5
  | .revert => 6
  | .groupLate => 7
  | .groupEarly => 8
  | .groupOverlap => 9
  | .cadenceMissing => 10
  | .storeOverflow => 11
  | .refLocked => 12
  | .refHoldover => 13
  | .refExpired => 14
  | .refStep => 15
  | .spliceOut => 16
  | .spliceReturn => 17
  | .spliceForced => 18
  | .cueMissed => 19
  | .clipUnderrun => 20
  | .clipLoaded => 21
  | .clipLoadFailed => 22
  | .gateChanged => 23
  | .continuityError => 24
  | .mgmtRefused => 25

/-- The flags in the order of their numbers. -/
def allFlags : List EventFlag :=
  [.feedALocked, .feedALost, .feedBLocked, .feedBLost, .portLLost, .changeover, .revert, .groupLate, .groupEarly,
   .groupOverlap, .cadenceMissing, .storeOverflow, .refLocked, .refHoldover, .refExpired, .refStep, .spliceOut,
   .spliceReturn, .spliceForced, .cueMissed, .clipUnderrun, .clipLoaded, .clipLoadFailed, .gateChanged,
   .continuityError, .mgmtRefused]

/-- The flag with a number, none outside 0..25. -/
def flagOfNumber (n : Nat) : Option EventFlag := allFlags[n]?

/-- The set that holds one flag. -/
def EventFlag.bit (f : EventFlag) : BitVec 26 := BitVec.ofNat 26 (2 ^ f.number)

/-! ### The monitor queue (R191) -/

/-- A packet offered to the monitor queue: it joins the tail, or is dropped and counted by its kind where the queue is
full (R191) or a restart is pending (R196). -/
def Management.offer (m : Management) (p : MonitorPacket) : Management :=
  if m.restartPending || monitorMax ≤ m.queue.length then
    match p.kind with
    | .reply => { m with counters := { m.counters with replyPartsDropped := count m.counters.replyPartsDropped } }
    | .notice => { m with counters := { m.counters with noticesDropped := count m.counters.noticesDropped } }
  else { m with queue := m.queue ++ [p] }

/-! ### Raising a flag (R170, R171, R181) -/

/-- ALARM is asserted while some flag is both set and unmasked (R171). -/
def alarmLevel (flags unmasked : BitVec 26) : Bool := flags &&& unmasked != 0#26

/-- The ALARM line driven from the flags and masks as they stand. -/
def Supervision.driveAlarm (u : Supervision) : Supervision := { u with alarm := alarmLevel u.flags u.unmasked }

/-- The trigger: a trace WAITING for `f` enters TRACE_RUNNING, divider count and tallies 0 (R181). -/
def Trace.trigger (t : Trace) (f : EventFlag) : Trace :=
  if t.state = .waiting ∧ (t.config.bind (·.onFlag)) = some f then
    { t with state := .running, dividerCount := 0, nullSlots := 0, gapPositions := 0 }
  else t

/-- The flag goes from clear to set while unmasked, so a notice is queued (R171). -/
def Supervision.noticeDue (u : Supervision) (f : EventFlag) : Bool :=
  !u.flags.getLsbD f.number && u.unmasked.getLsbD f.number

/-- The Supervision Unit's part of raising a flag. -/
def Supervision.raise (u : Supervision) (f : EventFlag) : Supervision :=
  { u with
    flags := u.flags ||| f.bit
    alarm := alarmLevel (u.flags ||| f.bit) u.unmasked
    trace := u.trace.trigger f
    counters := { u.counters with noticesQueued := countIf (u.noticeDue f) u.counters.noticesQueued } }

/-- A cause raises its flag: the flag is set, a notice offered where it was clear and unmasked, ALARM follows, a trace
waiting for it starts (R170, R171, R181, R192). -/
def State.raise (s : State) (f : EventFlag) : State :=
  { s with
    su := s.su.raise f
    mu := if s.su.noticeDue f then s.mu.offer ⟨.notice, noticePacket s.mu.unitAddress f.number s.tu.time⟩ else s.mu }

/-- The flag is raised where `b` holds. -/
def State.raiseIf (s : State) (b : Bool) (f : EventFlag) : State := if b then s.raise f else s

/-! ### Replies (R190) -/

/-- The statuses (11.3). -/
inductive Status where
  | done
  | busy
  | range
  | state
  | conflict
  | notFound
  | noSpace
  | authority
  | unknown
deriving DecidableEq, Repr

/-- The status code (11.3). -/
def Status.code : Status → Nat
  | .done => 0
  | .busy => 1
  | .range => 2
  | .state => 3
  | .conflict => 4
  | .notFound => 5
  | .noSpace => 6
  | .authority => 7
  | .unknown => 8

/-- Data cut into parts of 171 bytes, the last with the rest; no data is one empty part (R190). `fuel` bounds the number
of parts. -/
def cutParts : Nat → List Byte → List (List Byte)
  | 0, d => [d]
  | fuel + 1, d => if d.length ≤ 171 then [d] else d.take 171 :: cutParts fuel (d.drop 171)

/-- The packets of a reply from part number `i` on; the last carries the mark (R190). -/
def replyPackets (unit : BitVec 12) (tag code : Byte) (status : Nat) : Nat → List (List Byte) → List MonitorPacket
  | _, [] => []
  | i, d :: rest =>
    ⟨.reply, replyPacket unit tag code status i rest.isEmpty d⟩ :: replyPackets unit tag code status (i + 1) rest

/-- The parts of a reply. -/
def replyParts (unit : BitVec 12) (tag code : Byte) (status : Status) (data : List Byte) : List MonitorPacket :=
  replyPackets unit tag code status.code 0 (cutParts (data.length / 171 + 1) data)

/-- The reply is formed and counted, and its parts are offered in order (R190, R191). -/
def Management.reply (m : Management) (tag code : Byte) (status : Status) (data : List Byte) : Management :=
  (replyParts m.unitAddress tag code status data).foldl Management.offer
    { m with counters := { m.counters with repliesFormed := count m.counters.repliesFormed } }

def State.reply (s : State) (tag code : Byte) (status : Status) (data : List Byte) : State :=
  { s with mu := s.mu.reply tag code status data }

/-! ### The transmit gate (9.1, 9.2) -/

/-- Some diagnosis factor is set with this class. -/
def Supervision.anyFactor (u : Supervision) (c : DiagAction) : Bool := u.factors.toList.any (· == c)

/-- The requested gate state, from the factors (R161). -/
def Supervision.deriveRequested (u : Supervision) : Gate :=
  if u.mgmt = .stop ∨ u.noRate ∨ u.timing ∨ u.anyFactor .stop then .stop
  else if u.mgmt = .hold ∨ u.anyFactor .hold then .hold
  else .run

/-- The effective state the requested state calls for at a slot start (R164). -/
def Gate.target : Gate → Effective
  | .run => .running
  | .hold => .holding
  | .stop => .stopped

/-- Every entry's last output continuity becomes absent (R93). -/
def StreamTable.clearOutputs (t : StreamTable) : StreamTable :=
  { t with entries := t.entries.map fun e => { e with lastOut := none } }

/-- The effective state changes: counted, GATE_CHANGED raised, and on entering STARTING the output continuity counts made
absent (R163, R164, R93). -/
def State.setEffective (s : State) (e : Effective) : State :=
  if s.su.effective = e then s
  else
    State.raise
      { s with
        su := { s.su with
                effective := e
                counters := { s.su.counters with gateChanges := count s.su.counters.gateChanges } }
        st := if e = .starting then s.st.clearOutputs else s.st }
      .gateChanged

/-- The effective state brought into line with the requested state as far as is done at once: STOPPED leaves for STARTING,
STARTING for STOPPED, and RUNNING or HOLDING follow while no next slot time is held (R163, R164). -/
def State.alignGate (s : State) : State :=
  match s.su.effective with
  | .stopped => if s.su.requested = .stop then s else s.setEffective .starting
  | .starting => if s.su.requested = .stop then s.setEffective .stopped else s
  | .holding => if s.dt.nextSlot = none then s.setEffective s.su.requested.target else s
  | .running => if s.dt.nextSlot = none then s.setEffective s.su.requested.target else s

/-- A factor may have changed: the requested state is derived afresh and the effective state follows (R161). -/
def State.regate (s : State) : State :=
  State.alignGate { s with su := { s.su with requested := s.su.deriveRequested } }

/-- The gate at the start of a slot: RUNNING and HOLDING are brought into line, and STARTING ends where the slot is an
anchor (R163, R164). -/
def State.gateAtSlot (s : State) (anchor : Bool) : State :=
  match s.su.effective with
  | .stopped => s
  | .starting => if anchor then s.setEffective s.su.requested.target else s
  | .holding => s.setEffective s.su.requested.target
  | .running => s.setEffective s.su.requested.target

end Sys2Proof.Machine
end

