-- ==== Sys2Proof/Machine/Clip.lean ====
section
/-! DEFINITION. Clip memory (chapter 7): places and pages, the directory, use counts and deferred deletion, the prefetch
queues, the arbiter, and the failing of a load. -/

namespace Sys2Proof.Machine

/-! ### Places (7.1) -/

/-- The place of stored position `i` of a clip: place i mod 256 of the page at index floor(i / 256) of its page list. -/
def ClipRecord.placeOf (r : ClipRecord) (i : Nat) : Option Nat :=
  (r.pages[i / pagePackets]?).map fun page => page * pagePackets + i % pagePackets

/-- The place of a stored position, where it is a place of the memory: its page lies in 0..8,191 (7.1). -/
def ClipRecord.validPlace (r : ClipRecord) (i : Nat) : Option Nat :=
  (r.placeOf i).bind fun a => if a < clipPages * pagePackets then some a else none

/-- The packet at a place of the DRAM; an undefined one where nothing has been written (R148). -/
def ClipController.packetAt (m : ClipController) (a : Nat) : Packet :=
  (Memory.read m.dram a).getD (Config.undefinedPlace a)

/-- The component index the tag store keeps for a stored position (7.1). -/
def ClipController.tagOf (m : ClipController) (r : ClipRecord) (i : Nat) : Nat :=
  match r.placeOf i with
  | some a => (Memory.read m.tags a).getD (Config.undefinedTag a)
  | none => Config.undefinedTag i

/-- The stored positions of `r` from `i` on whose component index is `k` (R143, R158). -/
def ClipController.positionsOf (m : ClipController) (r : ClipRecord) (k : Nat) (i : Nat) : List Nat :=
  (List.range' i (r.count - i)).filter fun j => m.tagOf r j == k

/-! ### The directory (7.2) -/

/-- The record that is not FREE and bears the id. -/
def ClipController.find (m : ClipController) (id : Nat) : Option (Fin 64) :=
  (List.finRange 64).find? fun i => (m.record i).state != .free && (m.record i).id == id

/-- The READY record that bears the id (R113, R132). -/
def ClipController.findReady (m : ClipController) (id : Nat) : Option (Fin 64) :=
  (m.find id).bind fun i => if (m.record i).state = .ready then some i else none

/-- The record of a clip that a channel holds; a FREE record where there is none. -/
def ClipController.recordOf (m : ClipController) (id : Nat) : ClipRecord :=
  match m.find id with
  | some i => m.record i
  | none => .freed

/-- The FREE record of lowest index (R134). -/
def ClipController.lowestFree (m : ClipController) : Option (Fin 64) :=
  (List.finRange 64).find? fun i => (m.record i).state == .free

/-- A record's pages are given back at the tail of the free list, in page-list order, and it becomes FREE (R131). -/
def ClipController.giveBack (m : ClipController) (i : Fin 64) : ClipController :=
  { m with
    freeList := m.freeList ++ (m.record i).pages
    directory := setAt m.directory i .freed }

/-! ### Use counts (R133, R142) -/

/-- A channel arms a cue naming the clip (R113, R133). -/
def ClipController.hold (m : ClipController) (i : Fin 64) : ClipController :=
  m.modifyRecord i fun r => { r with use := r.use + 1 }

/-- A channel lets the clip go (R133); a DELETE_PENDING clip whose use count reaches 0 is freed (R142). -/
def ClipController.letGo (m : ClipController) (id : Nat) : ClipController :=
  match m.find id with
  | none => m
  | some i =>
    let r := m.record i
    if r.state = .deletePending ∧ r.use ≤ 1 then
      let m := m.giveBack i
      { m with counters := { m.counters with deferredDeletes := count m.counters.deferredDeletes } }
    else m.modifyRecord i fun r => { r with use := r.use - 1 }

/-! ### Prefetch (R143) -/

/-- A read in progress for component `p` completes without effect (R143). -/
def Transfer.voidRead (t : Option Transfer) (p : Fin 16) : Option Transfer :=
  match t with
  | some (.read q live) => some (.read q (live && q != p))
  | some (.write live) => some (.write live)
  | none => none

/-- Prefetch of component `k` of channel `c` begins at the clip's first packet of that component; without one it is
exhausted from the start (R143). -/
def ClipController.startPrefetch (m : ClipController) (c k : Fin 4) (r : ClipRecord) : ClipController :=
  let first := if k.val < r.components then (m.positionsOf r k.val 0).head? else none
  { m with
    prefetch := setAt m.prefetch (componentIndex c k) { queue := [], pointer := first, exhausted := first.isNone }
    transfer := Transfer.voidRead m.transfer (componentIndex c k) }

/-- Prefetch of a component stops: its queue is emptied, a read in progress is of no effect, and the read pointer and
exhausted flag are kept (R143). -/
def ClipController.stopPrefetch (m : ClipController) (p : Fin 16) : ClipController :=
  { m with
    prefetch := modifyAt m.prefetch p fun q => { q with queue := [] }
    transfer := Transfer.voidRead m.transfer p }

/-- The clip packets of a component not yet played: those queued and those the read pointer has not reached (R158). -/
def ClipController.unplayed (m : ClipController) (c k : Fin 4) (r : ClipRecord) : Nat :=
  let q := getAt m.prefetch (componentIndex c k)
  q.queue.length +
    match q.pointer with
    | none => 0
    | some i => (m.positionsOf r k.val i).length

/-! ### The arbiter (R144, R145) -/

/-- A channel component needs a read (R144). -/
def State.needsRead (s : State) (p : Fin 16) : Bool :=
  let c : Fin 4 := ⟨p.val / 4, by omega⟩
  let k : Fin 4 := ⟨p.val % 4, by omega⟩
  let ch := s.channel c
  let q := getAt s.cm.prefetch p
  (match ch.state with
   | .disabled => false
   | .network => false
   | .armed => k.val < ch.pids.length
   | .out => getAt ch.subst k != .returned
   | .returning => getAt ch.subst k != .returned)
  && q.queue.length < prefetchMax && !q.exhausted

/-- The sixteen components in the round-robin order that begins at `i` (R144). -/
def roundRobinFrom (i : Fin 16) : List (Fin 16) := (List.finRange 16).map fun j => i + j

/-- The component the arbiter grants a read, if some component needs one (R144). -/
def State.readGrant (s : State) : Option (Fin 16) := (roundRobinFrom s.cm.roundRobin).find? s.needsRead

/-- The prefetch low level: the smallest queue level among the components that need a read, or 16 (R145). -/
def State.prefetchLow (s : State) : Nat :=
  ((List.finRange 16).filter s.needsRead).foldl (fun n p => min n (getAt s.cm.prefetch p).queue.length) prefetchMax

/-- The grant of a memory slot: a prefetch read, else a load write, else nothing (R144); the counters of R147 count
grants. A slot does not start while another's transfer is in progress. -/
def State.memorySlot (s : State) : State :=
  if s.cm.transfer.isSome then s
  else
    match s.readGrant with
    | some p =>
      { s with
        cm := { s.cm with
                transfer := some (.read p true)
                roundRobin := p + 1
                counters := { s.cm.counters with prefetchReads := count s.cm.counters.prefetchReads } } }
    | none =>
      if s.cm.load.buffer.isEmpty then s
      else
        { s with
          cm := { s.cm with
                  transfer := some (.write true)
                  counters := { s.cm.counters with loadWrites := count s.cm.counters.loadWrites } } }

/-! ### Failing a load (R139) -/

/-- A write in progress is of no effect (R139). -/
def Transfer.voidWrite (t : Option Transfer) : Option Transfer :=
  match t with
  | some (.read q live) => some (.read q live)
  | some (.write _) => some (.write false)
  | none => none

/-- The load ends without its clip: buffer discarded, pages given back, record FREE, context CLOSED, outcome recorded
(R139, R148). -/
def ClipController.endLoad (m : ClipController) (reason : LoadOutcome) : ClipController :=
  let id := (m.record m.load.record).id
  let m := m.giveBack m.load.record
  { m with load := .closed, transfer := Transfer.voidWrite m.transfer, lastOutcome := some (reason, id) }

/-- The load in progress fails (R139). -/
def State.failLoad (s : State) (reason : LoadOutcome) : State :=
  let m := s.cm.endLoad reason
  State.raise
    { s with cm := { m with counters := { m.counters with loadsFailed := count m.counters.loadsFailed } } }
    .clipLoadFailed

/-- Port L leaves LOCKED for BRIDGING: an OPEN load fails with PORT_LOSS (R22). -/
def State.portLLeaves (s : State) : State :=
  if s.cm.load.state = .opened then s.failLoad .portLoss else s

end Sys2Proof.Machine
end

