-- ==== Sys2Proof/Machine/Splice.lean ====
section
/-! DEFINITION. Splice channels (chapter 6) and substitution (chapter 8): arming and disarming, the cue list, cues taken,
splice-out, return, forced and immediate return, and stage 3 of the release of one packet. -/

namespace Sys2Proof.Machine

/-- The kind of a cue (6.3). -/
inductive CueKind where
  | out
  | in_
  | cancel
deriving DecidableEq, Repr

/-- A cue as taken by a channel (6.3). -/
structure Cue where
  event : Nat
  kind : CueKind
  time : Option Pts
  duration : Option Nat
  avail : Nat
deriving DecidableEq, Repr

/-- What became of a cue, as CUE_POST reports it (R127). -/
inductive Disposition where
  | inserted
  | replaced
  | duplicate
  | unmatched
  | missed
  | overflow
  | appliedActive
  | appliedArmed
  | appliedListed
  | cancelled
  | returned
  | disarmed
  | removed
  | ignored
deriving DecidableEq, Repr

/-- The channel is ARMED, OUT or RETURNING, so it holds a clip (6.1). -/
def ChannelState.holdsClip : ChannelState → Bool
  | .disabled => false
  | .network => false
  | .armed => true
  | .out => true
  | .returning => true

/-- The channel is OUT or RETURNING: a splice is on air. -/
def ChannelState.onAir : ChannelState → Bool
  | .disabled => false
  | .network => false
  | .armed => false
  | .out => true
  | .returning => true

/-- The place of a PID among a channel's components (6.1). -/
def Channel.componentOf (ch : Channel) (pid : Pid) : Option (Fin 4) :=
  (List.finRange 4).find? fun k => ch.pids[k.val]? == some pid

/-- The components of a channel, by number. -/
def Channel.components (ch : Channel) : List (Fin 4) := (List.finRange 4).filter fun k => k.val < ch.pids.length

/-! ### Arming and disarming (R113, R114) -/

/-- The head cue becomes the armed cue: the active splice record of R113, step 1. -/
def ListedCue.armed (q : ListedCue) : ActiveSplice :=
  { event := q.event, clip := q.clip, time := q.time, duration := q.duration, windowBase := q.windowBase,
    returnOverride := q.returnOverride, out := none }

/-- Channel `c` arms cue `q`, whose clip is the READY record `i`; `rest` stays in its list (R113). -/
def State.arm (s : State) (c : Fin 4) (q : ListedCue) (rest : List ListedCue) (i : Fin 64) : State :=
  let ks := (s.channel c).components
  let r := s.cm.record i
  let s := s.modifyChannel c fun ch =>
    { ch with list := rest, active := some q.armed, state := .armed }
  { s with cm := ks.foldl (fun m k => m.startPrefetch c k r) (s.cm.hold i) }

/-- The arming test of a channel in NETWORK: it passes when the head cue's clip is READY (R113). -/
def State.armingTest (s : State) (c : Fin 4) : State :=
  if (s.channel c).state = .network then
    match (s.channel c).list with
    | [] => s
    | q :: rest =>
      match s.cm.findReady q.clip with
      | none => s
      | some i => s.arm c q rest i
  else s

/-- A clip record has become READY: each channel in NETWORK makes its arming test (R132, R113). -/
def State.clipReady (s : State) : State := (List.finRange 4).foldl State.armingTest s

/-- Prefetch stops for every component of a channel (R114, R143). -/
def State.stopChannelPrefetch (s : State) (c : Fin 4) : State :=
  { s with cm := (List.finRange 4).foldl (fun m k => m.stopPrefetch (componentIndex c k)) s.cm }

/-- The clip of the active splice record is let go (R114, R119, R133). -/
def State.letClipGo (s : State) (c : Fin 4) : State :=
  match (s.channel c).active with
  | none => s
  | some a => { s with cm := s.cm.letGo a.clip }

/-- The armed channel is disarmed; the arming test follows unless CHANNEL_DISABLE did it (R114). -/
def State.disarm (s : State) (c : Fin 4) (rearm : Bool) : State :=
  let s := (s.letClipGo c).stopChannelPrefetch c
  let s := s.modifyChannel c fun ch =>
    { ch with active := none, state := .network, counters := { ch.counters with disarms := count ch.counters.disarms } }
  if rearm then s.armingTest c else s

/-! ### Return (R118 to R122, R158) -/

/-- The splice of `c` ends: clip let go, record cleared, counted, SPLICE_RETURN raised, channel in NETWORK; the arming
test follows unless CHANNEL_DISABLE ended it (R119). -/
def State.endSplice (s : State) (c : Fin 4) (rearm : Bool) : State :=
  let s := s.letClipGo c
  let s := s.modifyChannel c fun ch =>
    { ch with active := none, state := .network, counters := { ch.counters with returns := count ch.counters.returns } }
  let s := s.raise .spliceReturn
  if rearm then s.armingTest c else s

/-- Component `k` of `c` becomes RETURNED: its unplayed clip packets are abandoned and counted, its prefetch stops, and the
channel is at least RETURNING (R118, R158). -/
def State.retire (s : State) (c k : Fin 4) : State :=
  let ch := s.channel c
  if getAt ch.subst k = .returned then s
  else
    let r := s.cm.recordOf ((ch.active.map (·.clip)).getD 0)
    let left := s.cm.unplayed c k r
    let s := s.modifyChannel c fun ch =>
      { ch with
        subst := setAt ch.subst k .returned
        state := .returning
        counters := { ch.counters with abandoned := countBy ch.counters.abandoned left } }
    { s with cm := s.cm.stopPrefetch (componentIndex c k) }

/-- Every component of the channel is RETURNED. -/
def Channel.allReturned (ch : Channel) : Bool := ch.subst.toList.all (· == .returned)

/-- Component `k` of `c` meets its return point (R117, R118); when that returns the last component the splice ends
(R119). -/
def State.returnComponent (s : State) (c k : Fin 4) : State :=
  let s := s.retire c k
  if (s.channel c).allReturned then s.endSplice c true else s

/-- The immediate return: every component RETURNED at once, then the splice ends (R122). -/
def State.immediateReturn (s : State) (c : Fin 4) (rearm : Bool) : State :=
  ((List.finRange 4).foldl (fun s k => s.retire c k) s).endSplice c rearm

/-! ### Splice-out and the forced return (R116, R120, R121) -/

/-- The planned length: (return time − P) mod 2^33 if that is below 2^32, else 0 (R116). -/
def plannedLength (returnTime p : Pts) : Nat :=
  if (returnTime - p).toNat < 2 ^ 32 then (returnTime - p).toNat else 0

/-- The forced-return time: the site time at splice-out plus planned length × 300 + 54,000,000 ticks (R116). -/
def forcedReturnTime (returnTime p : Pts) (at_ : SiteTime) : SiteTime :=
  addTicks at_ ((plannedLength returnTime p * 300 + forcedMargin : Nat) : Int)

/-- The active splice's part learned at splice-out changed by `f`. -/
def Channel.modifyOut (ch : Channel) (f : SpliceOut → SpliceOut) : Channel :=
  { ch with active := ch.active.map fun a => { a with out := a.out.map f } }

/-- The part of the active splice learned at splice-out. -/
def Channel.spliceOut? (ch : Channel) : Option SpliceOut := ch.active.bind (·.out)

/-- The forced return: the mark set, counted, SPLICE_FORCED raised (R121). -/
def State.forceReturn (s : State) (c : Fin 4) : State :=
  let s := s.modifyChannel c fun ch =>
    { ch.modifyOut (fun o => { o with forced := true }) with
      counters := { ch.counters with forcedReturns := count ch.counters.forcedReturns } }
  s.raise .spliceForced

/-- The forced-return time of `c` has been reached: the channel is on air and its mark is not yet set (R121). -/
def State.forcedDue (s : State) (c : Fin 4) : Bool :=
  (s.channel c).state.onAir &&
    match (s.channel c).spliceOut? with
    | none => false
    | some o => !o.forced && atOrAfter s.tu.time o.forcedAt

/-- An IN changes the return time: the forced-return time is computed afresh, and if it has been reached already the
forced return takes place at once; a mark that is set stays set (R111, R120). -/
def State.setReturnTime (s : State) (c : Fin 4) (t : Pts) : State :=
  let s := s.modifyChannel c fun ch =>
    ch.modifyOut fun o => { o with returnTime := t, forcedAt := forcedReturnTime t o.pts o.siteTime }
  if s.forcedDue c then s.forceReturn c else s

/-- The splice-out point: the channel enters OUT, its record is filled in, the primary is SUBSTITUTING and every other
component WAITING (R116, R153). -/
def State.spliceOutAt (s : State) (c : Fin 4) (p : Pts) : State :=
  match (s.channel c).active with
  | none => s
  | some a =>
    let r := s.cm.recordOf a.clip
    let c0 := ((getAt r.firstPts 0).getD 0#33)
    let ret := match a.returnOverride, a.duration with
      | some t, _ => t
      | none, some d => ptsAdd p d
      | none, none => ptsAdd p r.duration
    let o : SpliceOut :=
      { pts := p, offset := p - c0, returnTime := ret, siteTime := s.tu.time,
        forcedAt := forcedReturnTime ret p s.tu.time, forced := false }
    let s := s.modifyChannel c fun ch =>
      { ch with
        active := some { a with out := some o }
        state := .out
        subst := Vector.ofFn fun k : Fin 4 =>
          if k = 0 then .substituting else if k.val < ch.pids.length then .waiting else .returned
        counters := { ch.counters with spliceOuts := count ch.counters.spliceOuts } }
    s.raise .spliceOut

/-! ### The cue list (R109, R110) -/

/-- A timed cue stands before a listed cue: the listed one is timed and lies farther ahead of x (R109). -/
def standsBefore (x : Pts) (s : Pts) (q : ListedCue) : Bool :=
  match q.time with
  | none => false
  | some t => forwardDistance s x < forwardDistance t x

/-- The cue put in its place: an immediate cue after the immediate ones, a timed cue by its forward distance from x,
after the cues of equal distance, or at the end where no primary PTS has been released (R109). In a list that is not in
ascending order for this x the timed cue goes before the first one farther than it (DESIGN CHOICE, log entry 33). -/
def insertCue (x : Option Pts) (q : ListedCue) : List ListedCue → List ListedCue
  | [] => [q]
  | h :: rest =>
    let before := match q.time, x with
      | none, _ => h.time.isSome
      | some _, none => false
      | some t, some x => standsBefore x t h
    if before then q :: h :: rest else h :: insertCue x q rest

/-- A cue whose time base is b has passed its window at primary PTS p: p is after b + 180,000 (R108, R110, R115). -/
def windowPassed (p b : Pts) : Bool := ptsAfter p (ptsAdd b cueWindow)

/-- The base of a cue's window: its splice time, or the window base of an immediate cue (R110, R115). -/
def windowBaseOf (time base : Option Pts) : Option Pts := time.or base

/-- The listed cue is MISSED at p; an immediate cue without a base is not (R110). -/
def ListedCue.missedAt (q : ListedCue) (p : Pts) : Bool :=
  match windowBaseOf q.time q.windowBase with
  | none => false
  | some b => windowPassed p b

/-- An immediate cue without a window base receives p (R110). -/
def ListedCue.giveBase (q : ListedCue) (p : Pts) : ListedCue :=
  if q.time.isNone ∧ q.windowBase.isNone then { q with windowBase := some p } else q

/-- A cue is MISSED: counted, CUE_MISSED raised (R108, R110, R115). -/
def State.missCue (s : State) (c : Fin 4) : State :=
  (s.countChannel c fun k => { k with missed := count k.missed }).raise .cueMissed

/-- The miss is counted and raised `n` times. -/
def State.missCues (s : State) (c : Fin 4) : Nat → State
  | 0 => s
  | n + 1 => (s.missCue c).missCues c n

/-- The window test of the cue list at primary PTS p (R110). -/
def State.listWindowTest (s : State) (c : Fin 4) (p : Pts) : State :=
  let old := (s.channel c).list
  let kept := (old.filter fun q => !q.missedAt p).map fun q => q.giveBase p
  let s := (s.modifyChannel c fun ch => { ch with list := kept }).missCues c (old.countP fun q => q.missedAt p)
  if (old.head?.map (·.event)) = (kept.head?.map (·.event)) then s else s.armingTest c

/-! ### Cues taken (R107, R108, R111, R112) -/

/-- The clip id of the first enabled match-table entry for the avail class and channel (R107). -/
def SpliceController.matchCue (sc : SpliceController) (c : Fin 4) (avail : Nat) : Option Nat :=
  (sc.cueMatches.toList.find? fun e => e.enabled && e.avail == avail && e.mask.getLsbD c.val).bind (·.clip)

/-- The active splice record bears the event id, and the channel holds its clip. -/
def Channel.activeIs (ch : Channel) (event : Nat) : Bool :=
  ch.state.holdsClip && (ch.active.map (·.event)) == some event

/-- The list holds a cue of the event id. -/
def Channel.lists (ch : Channel) (event : Nat) : Bool := ch.list.any fun q => q.event == event

/-- An OUT cue taken by channel `c`, with its disposition and the clip id matched: a cue is matched when it is taken,
whatever becomes of it (R107, R108, R127). -/
def State.takeOut (s : State) (c : Fin 4) (q : Cue) : State × Disposition × Option Nat :=
  let ch := s.channel c
  if ch.activeIs q.event then
    (s.countChannel c (fun k => { k with duplicates := count k.duplicates }), .duplicate, s.sc.matchCue c q.avail)
  else
    match s.sc.matchCue c q.avail with
    | none => (s.countChannel c (fun k => { k with unmatched := count k.unmatched }), .unmatched, none)
    | some clip =>
      let late := match q.time, ch.lastPts with
        | some t, some x => windowPassed x t
        | _, _ => false
      if late then (s.missCue c, .missed, some clip)
      else
        let new : ListedCue :=
          { event := q.event, time := q.time, duration := q.duration, avail := q.avail, clip,
            windowBase := if q.time.isNone then ch.lastPts else none, returnOverride := none }
        if ch.lists q.event then
          let list := insertCue ch.lastPts new (removeFirst (fun h => h.event == q.event) ch.list)
          let s := s.modifyChannel c fun ch =>
            { ch with list, counters := { ch.counters with replaced := count ch.counters.replaced } }
          (s.armingTest c, .replaced, some clip)
        else if cueListMax ≤ ch.list.length then
          (s.countChannel c (fun k => { k with overflow := count k.overflow }), .overflow, some clip)
        else
          let s := s.modifyChannel c fun ch => { ch with list := insertCue ch.lastPts new ch.list }
          (s.armingTest c, .inserted, some clip)

/-- A cue is removed, disarmed or returned by IN, CANCEL or command (R129). -/
def State.countCancelled (s : State) (c : Fin 4) (n : Nat) : State :=
  s.countChannel c fun k => { k with cancelled := countBy k.cancelled n }

/-- The cue of the event id leaves the list; a head that changed in NETWORK is followed by the arming test (R111, R112,
R128). -/
def State.removeListed (s : State) (c : Fin 4) (event : Nat) : State :=
  let old := (s.channel c).list
  let kept := removeFirst (fun q => q.event == event) old
  let s := s.modifyChannel c fun ch => { ch with list := kept }
  if (old.head?.map (·.event)) = (kept.head?.map (·.event)) then s else s.armingTest c

/-- An IN's splice time passes the test against a cue: the cue is immediate, or the time is after the cue's (R111). -/
def inPasses (t : Option Pts) (cueTime : Option Pts) : Option Pts :=
  match t, cueTime with
  | none, _ => none
  | some t, none => some t
  | some t, some b => if ptsAfter t b then some t else none

/-- An IN cue taken by channel `c` (R111). -/
def State.takeIn (s : State) (c : Fin 4) (q : Cue) : State × Disposition :=
  let ch := s.channel c
  if ch.state.onAir && (ch.active.map (·.event)) == some q.event then
    let p := (ch.spliceOut?.map (·.pts)).getD 0#33
    (s.setReturnTime c ((q.time.or ch.lastPts).getD p), .appliedActive)
  else if ch.activeIs q.event then
    match inPasses q.time (ch.active.bind (·.time)) with
    | some t =>
      (s.modifyChannel c (fun ch => { ch with active := ch.active.map fun a => { a with returnOverride := some t } }),
       .appliedArmed)
    | none => ((s.countCancelled c 1).disarm c true, .cancelled)
  else
    match ch.list.find? fun h => h.event == q.event with
    | none => (s.countChannel c (fun k => { k with insIgnored := count k.insIgnored }), .ignored)
    | some h =>
      match inPasses q.time h.time with
      | some t =>
        (s.modifyChannel c (fun ch =>
           { ch with list := modifyFirst (fun h => h.event == q.event)
                               (fun h => { h with returnOverride := some t }) ch.list }),
         .appliedListed)
      | none => ((s.countCancelled c 1).removeListed c q.event, .cancelled)

/-- What a CANCEL cue or a CUE_CANCEL command names is ended, disarmed or removed, and counted (R112, R128). -/
def State.cancelEvent (s : State) (c : Fin 4) (event : Nat) : State × Disposition :=
  let ch := s.channel c
  if ch.state.onAir && (ch.active.map (·.event)) == some event then
    ((s.countCancelled c 1).immediateReturn c true, .returned)
  else if ch.activeIs event then ((s.countCancelled c 1).disarm c true, .disarmed)
  else if ch.lists event then ((s.countCancelled c 1).removeListed c event, .removed)
  else (s, .ignored)

/-- A CANCEL cue taken by channel `c`; one that finds nothing is counted (R112). -/
def State.takeCancel (s : State) (c : Fin 4) (q : Cue) : State × Disposition :=
  match s.cancelEvent c q.event with
  | (_, .ignored) => (s.countChannel c (fun k => { k with cancelsIgnored := count k.cancelsIgnored }), .ignored)
  | r => r

/-- A cue is taken by channel `c` and counted (R106, R108, R111, R112, R127). -/
def State.takeCue (s : State) (c : Fin 4) (q : Cue) : State × Disposition × Option Nat :=
  let s := s.countChannel c fun k => { k with cuesTaken := count k.cuesTaken }
  match q.kind with
  | .out => s.takeOut c q
  | .in_ => let r := s.takeIn c q; (r.1, r.2, none)
  | .cancel => let r := s.takeCancel c q; (r.1, r.2, none)

/-! ### Cue packets (R106) -/

/-- The kind a byte names (11.6). -/
def cueKindOf (n : Nat) : Option CueKind :=
  match n with
  | 0 => some .out
  | 1 => some .in_
  | 2 => some .cancel
  | _ => none

/-- The cue a packet gives, none where the packet is not a valid cue packet (R106, 11.6). -/
def cueOfPacket (p : Packet) : Option Cue :=
  let pay := payloadOf p
  let duration := if bitAt pay 5 1 then some (fieldAt pay 11 4) else none
  if transportError p || !payloadPresent p || scrambling p != 0 || pay.length < 20
      || fieldAt pay 16 4 != (crc32 (pay.take 16)).toNat || duration == some 0 then none
  else
    (cueKindOf (fieldAt pay 4 1)).map fun kind =>
      { event := fieldAt pay 0 4, kind,
        time := if bitAt pay 5 0 then some (BitVec.ofNat 33 (fieldAt pay 6 5)) else none,
        duration, avail := fieldAt pay 15 1 }

/-- The channel is enabled and reads this PID for cues (R42, R106). -/
def Channel.readsCues (ch : Channel) (pid : Pid) : Bool := ch.state != .disabled && ch.cuePid == some pid

/-- Channel `c` reads a released packet of its cue PID (R106). -/
def State.readCue (s : State) (p : Packet) (c : Fin 4) : State :=
  if (s.channel c).readsCues (pidOf p) then
    match cueOfPacket p with
    | none => s.countChannel c fun k => { k with badCuePackets := count k.badCuePackets }
    | some q => (s.takeCue c q).1
  else s

/-- Every enabled channel whose cue PID the packet bears reads it (R42, R106). -/
def State.readCues (s : State) (p : Packet) : State := (List.finRange 4).foldl (fun s c => s.readCue p c) s

/-! ### Stage 3 (R105, R115 to R118, R149 to R156) -/

/-- What a stage hands on: a packet, or a null packet that goes directly to stage 6 (R41). -/
inductive StageOut where
  | packet (p : Packet)
  | null
deriving DecidableEq, Repr

/-- The window base of an armed immediate cue that has none yet (R115). -/
def ActiveSplice.giveBase (a : ActiveSplice) (p : Pts) : ActiveSplice :=
  if a.time.isNone ∧ a.windowBase.isNone then { a with windowBase := some p } else a

/-- Step 1 of R105 on a packet of the primary PID with readable PTS p: the last released primary PTS, the base of an armed
immediate cue, then the window test of the list. -/
def State.primaryPts (s : State) (c : Fin 4) (p : Pts) : State :=
  let s := s.modifyChannel c fun ch =>
    { ch with
      lastPts := some p
      active := if ch.state = .armed then ch.active.map fun a => a.giveBase p else ch.active }
  s.listWindowTest c p

/-- The packet is the armed cue's splice-out point (R115): payload start, random access, a readable PTS p not past the
window and, for a timed cue, at or after its splice time. -/
def ActiveSplice.splicesAt (a : ActiveSplice) (packet : Packet) : Option Pts :=
  if payloadStart packet && randomAccess packet then
    (readablePts packet).bind fun p =>
      match a.time, a.windowBase with
      | some t, _ => if ptsAtOrAfter p t && !windowPassed p t then some p else none
      | none, some w => if windowPassed p w then none else some p
      | none, none => none
  else none

/-- Step 2 of R105 in ARMED, on a packet of the primary PID: splice-out, or the miss of the armed cue (R115). -/
def State.armedTest (s : State) (c : Fin 4) (packet : Packet) : State :=
  match (s.channel c).active with
  | none => s
  | some a =>
    match a.splicesAt packet with
    | some p => s.spliceOutAt c p
    | none =>
      let missed := match (s.channel c).lastPts, windowBaseOf a.time a.windowBase with
        | some x, some b => windowPassed x b
        | _, _ => false
      if missed then (s.missCue c).disarm c true else s

/-- The packet is a return point of component `k` of `ch` (R117, R118): after the forced mark any packet; otherwise
payload start and a readable PTS at or after the return time, and for the primary random access as well. -/
def Channel.returnsAt (ch : Channel) (k : Fin 4) (packet : Packet) : Bool :=
  match ch.spliceOut? with
  | none => false
  | some o =>
    o.forced ||
      (payloadStart packet && (k != 0 || randomAccess packet) &&
        match readablePts packet with
        | none => false
        | some p => ptsAtOrAfter p o.returnTime)

/-- Step 2 of R105 in OUT and RETURNING, on a packet of component `k` (R117, R118). -/
def State.onAirTest (s : State) (c k : Fin 4) (packet : Packet) : State :=
  let ch := s.channel c
  match getAt ch.subst k with
  | .returned => s
  | .substituting => if ch.returnsAt k packet then s.returnComponent c k else s
  | .waiting =>
    if ch.returnsAt k packet then s.returnComponent c k
    else if payloadStart packet then
      s.modifyChannel c fun ch => { ch with subst := setAt ch.subst k .substituting }
    else s

/-- A clip packet as it leaves its queue, moved onto the network's timeline: its clock reference stuffed, its timestamps
rebased by the splice offset (R151, R152, R154). -/
def State.playPacket (s : State) (c : Fin 4) (packet : Packet) : State × StageOut :=
  let offset := (((s.channel c).spliceOut?).map (·.offset)).getD 0#33
  let clocked := carriesClock packet
  let stuffed := if clocked then stuffClock packet else packet
  let moved := rebase stuffed offset
  (s.countChannel c (fun k =>
     { k with
       clipPlayed := count k.clipPlayed
       clocksStuffed := countIf clocked k.clocksStuffed
       timestampsRebased := countBy k.timestampsRebased moved.2 }),
   .packet moved.1)

/-- Step 3 of R105: the packet of a SUBSTITUTING component gives up its position to the head of its prefetch queue, or to
a null packet where the queue is empty (R149, R156, R157). -/
def State.substitute (s : State) (c k : Fin 4) : State × StageOut :=
  let p := componentIndex c k
  let q := getAt s.cm.prefetch p
  match q.queue with
  | head :: rest =>
    State.playPacket { s with cm := { s.cm with prefetch := setAt s.cm.prefetch p { q with queue := rest } } } c head
  | [] =>
    if q.exhausted then (s.countChannel c (fun k => { k with exhaustedNulls := count k.exhaustedNulls }), .null)
    else
      let s := s.countChannel c fun k => { k with underrunNulls := count k.underrunNulls }
      (State.raise { s with su := { s.su with seenUnderrun := true } } .clipUnderrun, .null)

/-- The channel whose component a PID is: one enabled channel at most (R105, R123). -/
def State.componentChannel (s : State) (pid : Pid) : Option (Fin 4 × Fin 4) :=
  (List.finRange 4).findSome? fun c =>
    if (s.channel c).state = .disabled then none else ((s.channel c).componentOf pid).map fun k => (c, k)

/-- The tests of steps 1 and 2 of R105 for a packet of component `k` of channel `c`. A cue armed during this packet is
first tested on the next primary packet (R115). -/
def State.spliceTests (s : State) (c k : Fin 4) (packet : Packet) : State :=
  let before := (s.channel c).state
  let s :=
    match readablePts packet with
    | some p => if k = 0 then s.primaryPts c p else s
    | none => s
  match before with
  | .disabled => s
  | .network => s
  | .armed => if k = 0 then s.armedTest c packet else s
  | .out => s.onAirTest c k packet
  | .returning => s.onAirTest c k packet

/-- Stage 3 of the release of one packet (R105). -/
def State.stage3 (s : State) (packet : Packet) : State × StageOut :=
  match s.componentChannel (pidOf packet) with
  | none => (s, .packet packet)
  | some (c, k) =>
    let s := s.spliceTests c k packet
    if (s.channel c).state.onAir ∧ getAt (s.channel c).subst k = .substituting then s.substitute c k
    else (s, .packet packet)

end Sys2Proof.Machine
end

