-- ==== Sys2Proof/Machine/Store.lean ====
section
/-! DEFINITION. The Delay Store's operations (1.3 to 1.7): storing, releasing and discarding slots, the accounting
counters, records that leave their table; and the Release Engine's choices (chapter 2): the verdict, the candidate, the
changeover and the revert. -/

namespace Sys2Proof.Machine

/-! ### Rings (R9, R10, R18) -/

/-- The ring is full: the slot at the write index is not EMPTY (R9). -/
def Ring.full (r : Ring) : Bool := r.slots.any fun x => x.index == r.writeIndex

/-- The index after `i`, from 16,383 to 0 (R9, R38). -/
def nextIndex (i : Nat) : Nat := (i + 1) % ringSlots

/-- The fill of a ring: its slots that are not EMPTY (R10). -/
def Ring.fill (r : Ring) : Nat := r.slots.length

/-- The slot is HELD. -/
def Slot.isHeld (x : Slot) : Bool := x.state == .held

/-- The resident count: the HELD slots (R18). -/
def Ring.resident (r : Ring) : Nat := r.slots.countP Slot.isHeld

/-- The slot written at the write index (R9). -/
def Ring.put (r : Ring) (packet : Packet) (arrival : SiteTime) (group : Option Cadence) (position : Option Nat) : Ring :=
  { slots := r.slots ++ [⟨r.writeIndex, .held, packet, arrival, group, position⟩]
    writeIndex := nextIndex r.writeIndex }

/-- The ring of feed `f`. -/
def State.ring (s : State) (f : Feed) : Ring := s.ds.rings.get f

/-- The ring of feed `f` replaced. -/
def State.setRing (s : State) (f : Feed) (r : Ring) : State :=
  { s with ds := { s.ds with rings := s.ds.rings.set f r } }

/-- The group table of feed `f`. -/
def State.table (s : State) (f : Feed) : List GroupRecord := s.ds.tables.get f

/-- The group table of feed `f` replaced. -/
def State.setTable (s : State) (f : Feed) (t : List GroupRecord) : State :=
  { s with ds := { s.ds with tables := s.ds.tables.set f t } }

/-- The feed's current open group replaced. -/
def State.setOpen (s : State) (f : Feed) (g : Option OpenGroup) : State :=
  { s with fi := { s.fi with openGroups := s.fi.openGroups.set f g } }

/-- A taken packet of feed `f` is dropped (R18). -/
def State.countDropped (s : State) (f : Feed) : State :=
  s.account f fun a => { a with dropped := a.dropped + 1 }

/-- A full ring or a full group table raises STORE_OVERFLOW and sets the overflow seen mark (R9, R12, R168). -/
def State.overflowSeen (s : State) : State :=
  State.raise { s with su := { s.su with seenOverflow := true } } .storeOverflow

/-- The packet is stored at the write index, or dropped as an overflow where the ring is full; whether it was stored
(R9). -/
def State.storePacket (s : State) (f : Feed) (packet : Packet) (arrival : SiteTime) (group : Option Cadence)
    (position : Option Nat) : State × Bool :=
  if (s.ring f).full then
    (((s.countIntake f.port fun k => { k with overflowDrops := count k.overflowDrops }).countDropped f).overflowSeen,
     false)
  else (s.setRing f ((s.ring f).put packet arrival group position), true)

/-- Every HELD slot of feed `f` that meets `p` becomes EMPTY and is counted "discarded" (R10). -/
def State.discardSlots (s : State) (f : Feed) (p : Slot → Bool) : State :=
  let gone := (s.ring f).slots.countP fun x => x.isHeld && p x
  let kept := (s.ring f).slots.filter fun x => !(x.isHeld && p x)
  (s.setRing f { s.ring f with slots := kept }).account f fun a =>
    { a with discarded := a.discarded + BitVec.ofNat 48 gone }

/-- The first HELD slot of feed `f` that meets `p` is taken into release: RELEASED-pending-free, counted "released"
(R10). -/
def State.takeSlot (s : State) (f : Feed) (p : Slot → Bool) : State :=
  (s.setRing f
    { s.ring f with
      slots := modifyFirst (fun x => x.isHeld && p x) (fun x => { x with state := .releasedPendingFree })
        (s.ring f).slots }).account f
    fun a => { a with released := a.released + 1 }

/-- The slot that was taken into release becomes EMPTY (R10, R44). -/
def State.freeSlot (s : State) (f : Feed) (index : Nat) : State :=
  s.setRing f
    { s.ring f with
      slots := removeFirst (fun x => !x.isHeld && x.index == index) (s.ring f).slots }

/-! ### Group records (R13, R17) -/

/-- The record of a number in the table of feed `f`. -/
def State.record? (s : State) (f : Feed) (n : Cadence) : Option GroupRecord :=
  (s.table f).find? fun r => r.number == n

/-- The record of a number changed by `g`. -/
def State.modifyGroup (s : State) (f : Feed) (n : Cadence) (g : GroupRecord → GroupRecord) : State :=
  s.setTable f (modifyFirst (fun r => r.number == n) g (s.table f))

/-- A record leaves its table, DONE or DISCARDED: its HELD slots become EMPTY and are counted, and a feed whose open group
it was has none (R17). -/
def State.dropRecord (s : State) (f : Feed) (n : Cadence) : State :=
  let s := s.setTable f (removeFirst (fun r => r.number == n) (s.table f))
  let s := if (s.fi.openGroups.get f).map (·.number) = some n then s.setOpen f none else s
  s.discardSlots f fun x => x.group == some n

/-- Some records of a table leave it, one after another. -/
def State.dropRecords (s : State) (f : Feed) (ns : List Cadence) : State :=
  ns.foldl (fun s n => s.dropRecord f n) s

/-! ### The verdict (R25) -/

/-- The window test on d = T − A_cad (R25, R51). -/
def verdictOf (release arrival : SiteTime) : Verdict :=
  let d := siteDiff release arrival
  if d < 0 then .late else if 27000000 < d then .early else .onTime

/-! ### The candidate (R26) -/

/-- A record is eligible: ON_TIME, not yet started, and numbered after the last-started number, if there is one (R26). -/
def GroupRecord.eligible (r : GroupRecord) (lastStarted : Option Cadence) : Bool :=
  r.verdict == .onTime && r.state != .releasing &&
    match lastStarted with
    | none => true
    | some n => cadenceAfter r.number n

/-- The eligible records of both tables, those of feed A first. -/
def State.eligibleRecords (s : State) : List GroupRecord :=
  (s.table .a ++ s.table .b).filter fun r => r.eligible s.re.lastStarted

/-- The record `r` is preferred to `b` by rule 2 of R26: an earlier T; at equal T the smaller number after n, or without
n the cadence packet that arrived first, or the lower number. -/
def betterCandidate (now : SiteTime) (lastStarted : Option Cadence) (r b : GroupRecord) : Bool :=
  let dr := siteDiff r.release now
  let db := siteDiff b.release now
  dr < db || (dr == db &&
    match lastStarted with
    | some n => (r.number - n).toNat < (b.number - n).toNat
    | none => isBefore r.arrival b.arrival || (siteDiff r.arrival b.arrival == 0 && r.number.toNat < b.number.toNat))

/-- The best of some records by rule 2 of R26. -/
def bestCandidate (now : SiteTime) (lastStarted : Option Cadence) : List GroupRecord → Option GroupRecord
  | [] => none
  | r :: rest => some (rest.foldl (fun b x => if betterCandidate now lastStarted x b then x else b) r)

/-- The eligible record of a number that governs its release: the selected feed's if that is eligible, else the other's;
with its feed (R26, R28). -/
def State.chosenCopy (s : State) (n : Cadence) : Option (Feed × GroupRecord) :=
  let of (f : Feed) := ((s.record? f n).filter fun r => r.eligible s.re.lastStarted).map fun r => (f, r)
  (of s.re.selected).or (of s.re.selected.other)

/-- The candidate as R26 determines it at this instant. `due` is the candidate whose release time had been reached before
the change that asks for the determination, its group start not yet taken: of the records whose release time is reached,
the one that governs its release alone stays in the choice of rule 2 (log entry 20). -/
def State.determineCandidate (s : State) (due : Option Cadence) : Option Cadence :=
  let es := s.eligibleRecords
  let next := s.re.lastStarted.bind fun n => if es.any fun r => r.number == n + 1 then some (n + 1) else none
  match next with
  | some m => some m
  | none =>
    let kept := (due.bind s.chosenCopy).map (·.2)
    (bestCandidate s.tu.time s.re.lastStarted
      (es.filter fun r => isAfter r.release s.tu.time || kept == some r)).map (·.number)

/-- The candidate is determined again (R26). -/
def State.recandidate (s : State) (due : Option Cadence) : State :=
  { s with re := { s.re with candidate := s.determineCandidate due } }

/-- The candidate's release time (R26). -/
def State.candidateTime (s : State) : Option SiteTime :=
  (s.re.candidate.bind s.chosenCopy).map fun c => c.2.release

/-- A group start is due: SFN mode, an output rate set, and site time at or after the candidate's release time (R27,
R49). -/
def State.groupStartDue (s : State) : Bool :=
  s.re.mode == .sfn && s.dt.rate.isSome &&
    match s.candidateTime with
    | none => false
    | some t => atOrAfter s.tu.time t

/-- The candidate, where its group start is due and not yet taken (log entry 20). -/
def State.dueCandidate (s : State) : Option Cadence := if s.groupStartDue then s.re.candidate else none

/-- The group start is late: site time has gone past the candidate's release time (R27). -/
def State.lateStartDue (s : State) : Bool :=
  s.groupStartDue &&
    match s.candidateTime with
    | none => false
    | some t => isAfter s.tu.time t

/-- The record of `n` in the table of `f` has been passed: eligible, its release time reached, and it is neither the
candidate, nor the twin of the group being released; while no output rate has been set every eligible record is (R29). -/
def State.passedDue (s : State) (f : Feed) (n : Cadence) : Bool :=
  match s.record? f n with
  | none => false
  | some r =>
    r.eligible s.re.lastStarted && atOrAfter s.tu.time r.release &&
      (s.dt.rate.isNone || (s.re.candidate != some n && (s.re.releasing.map (·.number)) != some n))

/-- The instant at which a record is stale: its cadence arrival plus 54,000,000 ticks, as two additions (R30). -/
def GroupRecord.staleAt (r : GroupRecord) : SiteTime := addTicks (addTicks r.arrival 27000000) 27000000

/-- The record of `n` in the table of `f` is stale: it is not being released, nor is it the twin of the group being
released (R30). -/
def State.staleDue (s : State) (f : Feed) (n : Cadence) : Bool :=
  match s.record? f n with
  | none => false
  | some r =>
    r.state != .releasing && atOrAfter s.tu.time r.staleAt && (s.re.releasing.map (·.number)) != some n

/-- The record of `n` in the table of `f` is DISCARDED as passed (R29). -/
def State.discardPassed (s : State) (f : Feed) (n : Cadence) : State :=
  (s.dropRecord f n).countRelease fun k => { k with passedGroups := count k.passedGroups }

/-! ### The selected feed (R36, R37) -/

/-- The link state of a feed's port. -/
def State.linkOf (s : State) (f : Feed) : Link := (s.framer f.port).link

/-- The link is LOST or ABSENT (R36, R167). -/
def Link.down : Link → Bool
  | .absent => true
  | .searching => false
  | .locked => false
  | .bridging => false
  | .lost => true

/-- A changeover is due: the selected feed is LOST or ABSENT and the other is LOCKED (R36). -/
def State.changeoverDue (s : State) : Bool :=
  (s.linkOf s.re.selected).down && s.linkOf s.re.selected.other == .locked

/-- The revert timer runs: policy on, preferred feed not selected and LOCKED (R37). -/
def State.revertCondition (s : State) : Bool :=
  s.re.revertive && s.re.preferred != s.re.selected && s.linkOf s.re.preferred == .locked

/-- The revert timer judged against R37: it starts from zero when its condition becomes true; when the condition is false
it stops and a pending revert is withdrawn. -/
def State.judgeRevert (s : State) : State :=
  if s.revertCondition then
    match s.re.revertTimer with
    | some _ => s
    | none => { s with re := { s.re with revertTimer := some s.tu.time } }
  else { s with re := { s.re with revertTimer := none, revertPending := false } }

/-- The link state of port A or B has changed: the changeover condition and the revert timer are judged (R36, R37). -/
def State.linkChanged (s : State) : State :=
  State.judgeRevert { s with re := { s.re with changeoverPending := s.changeoverDue } }

/-- The running revert timer has reached the revert hold (R37). -/
def State.revertTimerReached (s : State) : Bool :=
  match s.re.revertTimer with
  | none => false
  | some t => (s.re.revertHold * ticksPerSecond : Nat) ≤ siteDiff s.tu.time t

/-- The selected feed becomes `f`; changeover and revert are judged afresh. -/
def State.select (s : State) (f : Feed) : State :=
  let s := { s with re := { s.re with selected := f, revertPending := false } }
  State.judgeRevert { s with re := { s.re with changeoverPending := s.changeoverDue } }

/-- A pending changeover or revert whose condition still holds is applied; of both, the changeover (R28, R36, R37, R40).
Whether the selected feed changed. -/
def State.applySelection (s : State) : State × Bool :=
  if s.re.changeoverPending && s.changeoverDue then
    (((s.select s.re.selected.other).countRelease fun k => { k with changeovers := count k.changeovers }).raise
      .changeover, true)
  else if s.re.revertPending && s.revertCondition then
    (((s.select s.re.preferred).countRelease fun k => { k with reverts := count k.reverts }).raise .revert, true)
  else (s, false)

end Sys2Proof.Machine
end

