-- ==== Sys2Proof/Machine/Departure.lean ====
section
/-! DEFINITION. The Departure Timer (chapter 3): the pacer, its anchors, the scheduled changes applied at a group start, and
the move of the next slot time at a step of site time. -/

namespace Sys2Proof.Machine

/-- The pacer taken at an anchor from a rate: q = floor(N / R), r = N mod R, a = 0 (R52, R53). -/
def pacerFor (rate : Nat) : Pacer :=
  { rate, quotient := pacerN / rate, remainder := pacerN % rate, acc := 0 }

/-- The interval to the next slot and the pacer after it (R53). -/
def Pacer.advance (p : Pacer) : Nat × Pacer :=
  if p.rate ≤ p.acc + p.remainder then (p.quotient + 1, { p with acc := p.acc + p.remainder - p.rate })
  else (p.quotient, { p with acc := p.acc + p.remainder })

/-- The pacer is anchored: it takes the rate in force, and slot 0 begins at `at_` (R52, R56, R58). -/
def DepartureTimer.anchor (d : DepartureTimer) (at_ : SiteTime) : DepartureTimer :=
  match d.rate with
  | none => d
  | some r => { d with pacer := some (pacerFor r), reanchor := false, nextSlot := some at_ }

/-- A slot begins at `start`: the next slot time is that start plus the pacer's interval (R53). -/
def DepartureTimer.computeNext (d : DepartureTimer) (start : SiteTime) : DepartureTimer :=
  match d.pacer with
  | none => { d with nextSlot := none }
  | some p => { d with pacer := some p.advance.2, nextSlot := some (addTicks start p.advance.1) }

/-- A slot begins: counted (R66). -/
def DepartureTimer.countSlot (d : DepartureTimer) : DepartureTimer :=
  { d with counters := { d.counters with slots := count d.counters.slots } }

/-- At the start of group `s` a pending rate change that is due is applied (R62). -/
def DepartureTimer.applyRate (d : DepartureTimer) (s : Cadence) : DepartureTimer :=
  match d.pendingRate with
  | none => d
  | some c =>
    if cadenceDue s c.cadence then
      { d with
        rate := some c.rate
        pendingRate := none
        counters := { d.counters with rateChanges := count d.counters.rateChanges } }
    else d

/-- At the start of group `s` a pending offset change that is due is applied (R62). -/
def DepartureTimer.applyOffset (d : DepartureTimer) (s : Cadence) : DepartureTimer :=
  match d.pendingOffset with
  | none => d
  | some c =>
    if cadenceDue s c.cadence then
      { d with
        offset := c.offset
        pendingOffset := none
        counters := { d.counters with offsetChanges := count d.counters.offsetChanges } }
    else d

/-- A group start: the changes due at it, then the anchor (R56, R62). -/
def DepartureTimer.startGroup (d : DepartureTimer) (s : Cadence) (now : SiteTime) : DepartureTimer :=
  ((d.applyRate s).applyOffset s).anchor now

/-- A held next slot time moves by the size of a step of site time (R54). -/
def DepartureTimer.shift (d : DepartureTimer) (k : Int) : DepartureTimer :=
  { d with nextSlot := d.nextSlot.map fun t => addTicks t k }

/-- The pacer anchored now where the mode is MFN and a rate is set (R58). -/
def State.anchorMfn (s : State) : State :=
  if s.re.mode = .mfn then { s with dt := s.dt.anchor s.tu.time } else s

/-- The release time of a group: its stamp plus the site offset in force (R50). -/
def State.releaseTime (s : State) (stamp : SiteTime) : SiteTime := addTicks stamp s.dt.offset

end Sys2Proof.Machine
end

