-- ==== Sys2Proof/Machine/Timing.lean ====
section
/-! DEFINITION. The Timing Unit (chapter 4): the advance of site time, steps, pulses, qualification and lock, holdover. -/

namespace Sys2Proof.Machine

/-! ### Steps (R68) -/

/-- Site time is stepped to `t`: the size is recorded as the last step and the next slot time moves with it (R68, R54). -/
def State.stepTime (s : State) (t : SiteTime) : State :=
  let k := siteDiff t s.tu.time
  { s with tu := { s.tu with time := t, lastStep := k }, dt := s.dt.shift k }

/-! ### The TIMING factor (R82) -/

/-- The TIMING factor: SFN, and FREE or QUALIFYING without a lock since power-on (R82). -/
def timingFactor (mode : Mode) (ref : RefState) (locked : Bool) : Bool :=
  mode == .sfn &&
    match ref with
    | .free => true
    | .qualifying _ => !locked
    | .locked => false
    | .holdover => false
    | .expired => false

/-- The Timing Unit hands the factor over, and the gate follows (R82, R162). -/
def State.handTiming (s : State) : State :=
  State.regate { s with su := { s.su with timing := timingFactor s.re.mode s.tu.ref s.tu.lockedSincePowerOn } }

/-! ### Holdover (R76 to R80) -/

/-- Time is kept by the local oscillator with hold and skip (R68). -/
def RefState.inHoldover : RefState → Bool
  | .free => false
  | .qualifying .free => false
  | .qualifying .holdover => true
  | .qualifying .expired => true
  | .locked => false
  | .holdover => true
  | .expired => true

/-- The holdover length from the history ring; fewer than 4 counts give 27,000,000, remainder 0, n 1 (R78). -/
def holdLengthOf (history : List Nat) : HoldLength :=
  if 4 ≤ history.length then
    { base := history.sum / history.length, remainder := history.sum % history.length, n := history.length, acc := 0 }
  else { base := 27000000, remainder := 0, n := 1, acc := 0 }

/-- A holdover second starts: its length, and the length register with its accumulator carried on (R78). -/
def HoldLength.next (h : HoldLength) : Nat × HoldLength :=
  if h.n ≤ h.acc + h.remainder then (h.base + 1, { h with acc := h.acc + h.remainder - h.n })
  else (h.base, { h with acc := h.acc + h.remainder })

/-- A new holdover second begins (R78). -/
def TimingUnit.beginHoldSecond (t : TimingUnit) : TimingUnit :=
  { t with hold := t.hold.next.2, holdSecond := some { length := t.hold.next.1, passed := 0 } }

/-- The lock ends: HOLDOVER with its length computed afresh, REF_HOLDOVER raised, counted (R76, R78). -/
def State.enterHoldover (s : State) : State :=
  State.raise
    { s with
      tu := { s.tu with
              ref := .holdover
              hold := holdLengthOf s.tu.history
              holdSecond := none
              elapsed := 0
              counters := { s.tu.counters with holdoverEntries := count s.tu.counters.holdoverEntries } } }
    .refHoldover

/-- The time is declared expired (R80). -/
def RefState.expire : RefState → RefState
  | .free => .free
  | .qualifying .free => .qualifying .free
  | .qualifying .holdover => .qualifying .expired
  | .qualifying .expired => .qualifying .expired
  | .locked => .locked
  | .holdover => .expired
  | .expired => .expired

/-- The elapsed seconds have reached the limit in HOLDOVER, or QUALIFYING on basis HOLDOVER (R80, R85). -/
def TimingUnit.expiryDue (t : TimingUnit) : Bool := t.ref.expire != t.ref && t.limit ≤ t.elapsed

/-- Expiry is declared where it is due: REF_EXPIRED raised (R80). -/
def State.checkExpiry (s : State) : State :=
  if s.tu.expiryDue then State.raise { s with tu := { s.tu with ref := s.tu.ref.expire } } .refExpired else s

/-- A holdover second has ended (R79, R80). -/
def TimingUnit.holdSecondOver (t : TimingUnit) : Bool :=
  t.ref.inHoldover &&
    match t.holdSecond with
    | none => false
    | some h => h.length ≤ h.passed

/-- The end of a holdover second: the next second begins at tick 0 with its length, the elapsed seconds are incremented,
stopping at 2^32 − 1, and expiry is judged (R79, R80). -/
def State.endHoldSecond (s : State) : State :=
  let t := { s.tu with
             time := { sec := s.tu.time.sec + 1, tick := 0 }
             elapsed := count s.tu.elapsed }
  State.checkExpiry { s with tu := t.beginHoldSecond }

/-! ### The advance of site time (R68, R79) -/

/-- The tick after X, 26,999,999 being followed by 0 of the next second (R68). -/
def siteSucc (x : SiteTime) : SiteTime :=
  if x.tick + 1 < ticksPerSecond then { x with tick := x.tick + 1 } else { sec := x.sec + 1, tick := 0 }

/-- Site time advances by one site tick of an ordinary second; in holdover the second in progress at its entry ends into
the first holdover second (R68, R78). -/
def TimingUnit.ordinaryTick (t : TimingUnit) : TimingUnit :=
  let u := { t with time := siteSucc t.time }
  if t.ref.inHoldover && u.time.tick == 0 then u.beginHoldSecond else u

/-- One local tick of a holdover second of length λ: the tick follows the local ticks up to 26,999,999 and holds there;
when λ have passed the second has ended and HOLDOVER_SECOND_END is due (R79). -/
def TimingUnit.holdTick (t : TimingUnit) (h : HoldSecond) : TimingUnit :=
  let passed := h.passed + 1
  let t := { t with holdSecond := some { h with passed } }
  if h.length ≤ passed then t else { t with time := { t.time with tick := min passed (ticksPerSecond - 1) } }

/-- The advance of site time by the source of the reference state; `localTicks` local ticks pass with it (R68). -/
def TimingUnit.tick (t : TimingUnit) (localTicks : Nat) : TimingUnit :=
  let t := { t with localTicks := t.localTicks + localTicks }
  match t.holdSecond with
  | none => t.ordinaryTick
  | some h => if t.ref.inHoldover then t.holdTick h else t.ordinaryTick

/-! ### Pulses (R71 to R75) -/

/-- The count of a pulse: its captured local tick count minus the previous pulse's (R71). -/
def TimingUnit.pulseCount (t : TimingUnit) : Option Nat := t.lastPulse.map fun p => t.localTicks - p.localTick

/-- The count lies in 26,997,300..27,002,700 (R72). -/
def goodCount (c : Option Nat) : Bool :=
  match c with
  | none => false
  | some n => 26997300 ≤ n && n ≤ 27002700

/-- The pulse's time value is the previous pulse's plus 1, modulo 2^32 (R72). -/
def goodValue (previous now : Option Seconds) : Bool :=
  match previous, now with
  | some p, some v => v == p + 1
  | _, _ => false

/-- How a pulse is judged (R72). -/
inductive Judgement where
  | good
  | badCount
  | badTime
  | freqAbsent
deriving DecidableEq, Repr

/-- The judgement of a pulse that arrives now, the count test first (R72). -/
def TimingUnit.judge (t : TimingUnit) : Judgement :=
  if !goodCount t.pulseCount then .badCount
  else if !goodValue (t.lastPulse.bind (·.value)) t.lastTimeValue then .badTime
  else if !t.freq10 then .freqAbsent
  else .good

/-- The counters after a judged pulse (R86). -/
def TimingCounters.judged (c : TimingCounters) (j : Judgement) : TimingCounters :=
  match j with
  | .good => { c with good := count c.good }
  | .badCount => { c with badCount := count c.badCount }
  | .badTime => { c with badTime := count c.badTime }
  | .freqAbsent => { c with freqAbsent := count c.freqAbsent }

/-- The capture of a pulse: it becomes the previous pulse with its time value, which is used up; the missing-pulse timer
starts from zero; counted (R70, R71, R72). -/
def TimingUnit.capture (t : TimingUnit) : TimingUnit :=
  { t with
    lastPulse := some { localTick := t.localTicks, value := t.lastTimeValue }
    lastTimeValue := none
    missingTimer := true
    counters := { t.counters with pulses := count t.counters.pulses } }

/-- The phase error: the captured tick, or that less 27,000,000 from 13,500,000 on (R75). -/
def phaseError (tick : Nat) : Int := if tick < 13500000 then tick else (tick : Int) - 27000000

/-- The history ring with a count entered: the oldest of 16 is removed (R77). -/
def enterHistory (history : List Nat) (c : Nat) : List Nat :=
  (if 16 ≤ history.length then history.drop 1 else history) ++ [c]

/-- The lock at the fourth good pulse, whose time value is `v` (R74). TIMING is handed over here, before the starts that the step
makes late (R163; DESIGN CHOICE, log entry 39). -/
def State.lockAt (s : State) (v : Seconds) : State :=
  let k := siteDiff ⟨v, 0⟩ s.tu.time
  let s := s.stepTime ⟨v, 0⟩
  let s :=
    { s with
      tu := { s.tu with
              ref := .locked
              run := 4
              elapsed := 0
              hold := { s.tu.hold with acc := 0 }
              holdSecond := none
              lockedSincePowerOn := true
              lastPhase := 0
              counters := { s.tu.counters with
                            locks := count s.tu.counters.locks
                            steps := countIf (k != 0) s.tu.counters.steps } } }
  State.handTiming ((s.raise .refLocked).raiseIf (k != 0) .refStep)

/-- A good pulse in LOCKED with count `c` and time value `v`: realignment within ±27 ticks with its count entered, or the
end of the lock (R75, R76). -/
def State.lockedPulse (s : State) (c : Nat) (v : Seconds) : State :=
  let e := phaseError s.tu.time.tick
  let s := { s with tu := { s.tu with lastPhase := e } }
  if -27 ≤ e ∧ e ≤ 27 then
    let s := if e = 0 then s else s.stepTime ⟨v, 0⟩
    { s with tu := { s.tu with history := enterHistory s.tu.history c } }
  else (s.countTiming fun k => { k with phaseFaults := count k.phaseFaults }).enterHoldover

/-- A judged pulse in QUALIFYING on `basis`: the run advances to a lock at 4, or begins again (R73, R74). -/
def State.qualifyingPulse (s : State) (good : Bool) (v : Seconds) : State :=
  if good then
    if 3 ≤ s.tu.run then s.lockAt v else { s with tu := { s.tu with run := s.tu.run + 1 } }
  else { s with tu := { s.tu with run := 0 } }

/-- A pulse on REF PPS, acted on according to the reference state (R71 to R76). So a pulse taken at the instant of the missing-pulse
expiry, behind it, where the expiry has just returned QUALIFYING on basis FREE to FREE, is not judged and no cause is counted, as
R73 has it of the first pulse in FREE, though R71 calls it judged and bad (DESIGN CHOICE, log entry 44). -/
def State.pulse (s : State) : State :=
  let j := s.tu.judge
  let c := s.tu.pulseCount.getD 0
  let v := s.tu.lastTimeValue.getD 0#32
  let t := s.tu.capture
  let judged := { t with counters := t.counters.judged j }
  match s.tu.ref with
  | .free => { s with tu := { t with ref := .qualifying .free, run := 0 } }
  | .qualifying _ => State.qualifyingPulse { s with tu := judged } (j == .good) v
  | .locked =>
    if j = .good then State.lockedPulse { s with tu := judged } c v else State.enterHoldover { s with tu := judged }
  | .holdover => { s with tu := { judged with ref := .qualifying .holdover, run := if j = .good then 1 else 0 } }
  | .expired => { s with tu := { judged with ref := .qualifying .expired, run := if j = .good then 1 else 0 } }

/-- The state a broken qualification returns to (R73). -/
def Basis.refState : Basis → RefState
  | .free => .free
  | .holdover => .holdover
  | .expired => .expired

/-- The missing-pulse timer has run 29,700,000 local ticks (R71). -/
def TimingUnit.missingPulseDue (t : TimingUnit) : Bool :=
  t.missingTimer &&
    match t.lastPulse with
    | none => false
    | some p => missingPulseTicks ≤ t.localTicks - p.localTick

/-- The missing-pulse timer expires (R71, R73, R76). -/
def State.missingPulse (s : State) : State :=
  let s := { s with tu := { s.tu with
                            missingTimer := false
                            counters := { s.tu.counters with missing := count s.tu.counters.missing } } }
  match s.tu.ref with
  | .free => s
  | .qualifying b => { s with tu := { s.tu with ref := b.refState, run := 0 } }
  | .locked => s.enterHoldover
  | .holdover => s
  | .expired => s

/-- REF 10 MHz disappears; in LOCKED the lock ends (R72, R76). -/
def State.loseFrequency (s : State) : State :=
  let was := s.tu.freq10
  let s := { s with tu := { s.tu with freq10 := false } }
  if was ∧ s.tu.ref = .locked then
    (s.countTiming fun k => { k with freqLosses := count k.freqLosses }).enterHoldover
  else s

end Sys2Proof.Machine
end

