-- ==== Sys2Proof/Machine/Table.lean ====
section
/-! DEFINITION. The Stream Table at stages 2 and 4 of the release of one packet, and the clock-reference correction of
stage 5 (chapter 5; R64, R65). -/

namespace Sys2Proof.Machine

/-- The PID an entry's packets leave with (5.1). -/
def StreamEntry.produced (e : StreamEntry) : Pid := e.outPid.getD e.inPid

/-- The entry keyed by a PID. -/
def StreamTable.entry? (t : StreamTable) (pid : Pid) : Option StreamEntry := t.entries.find? fun e => e.inPid == pid

/-- The entry keyed by a PID changed by `f`. -/
def StreamTable.modify (t : StreamTable) (pid : Pid) (f : StreamEntry → StreamEntry) : StreamTable :=
  { t with entries := modifyFirst (fun e => e.inPid == pid) f t.entries }

/-- The entry written, in ascending order of input PID: a new one joins, one of the same key is replaced (R98). -/
def insertEntry (e : StreamEntry) : List StreamEntry → List StreamEntry
  | [] => [e]
  | h :: rest =>
    if e.inPid < h.inPid then e :: h :: rest
    else if e.inPid = h.inPid then e :: rest
    else h :: insertEntry e rest

/-- Some PASS entry produces the PID (R89, R95). -/
def StreamTable.produces (t : StreamTable) (pid : Pid) : Bool :=
  t.entries.any fun e => e.action == .pass && e.produced == pid

/-- A packet takes part in the input continuity check: payload present, transport error flag clear (R90). -/
def checkedPacket (p : Packet) : Bool := payloadPresent p && !transportError p

/-- The packet breaks the input continuity of its entry: checked, a last count p present, and a count that is neither p
nor p + 1 (R90). -/
def StreamEntry.breaks (e : StreamEntry) (p : Packet) : Bool :=
  e.check && checkedPacket p &&
    match e.lastIn with
    | none => false
    | some q => continuityOf p != q + 1 && continuityOf p != q

/-- The entry after the input check: the count recorded, an error counted (R90). -/
def StreamEntry.afterCheck (e : StreamEntry) (p : Packet) : StreamEntry :=
  { e with
    lastIn := if checkedPacket p then some (continuityOf p) else e.lastIn
    errors := countIf (e.breaks p) e.errors }

/-- What stage 2 found: the packet's entry, no entry with default PASS, or a null packet (R88, R89). -/
inductive Lookup where
  | entry (pid : Pid)
  | noEntry
  | null
deriving DecidableEq, Repr

/-- Stage 2: lookup, input continuity check, PASS or DROP, default action and shadowing (R88, R89, R90). -/
def State.stage2 (s : State) (p : Packet) : State × Lookup :=
  let pid := pidOf p
  match s.st.entry? pid with
  | some e =>
    let s := { s with st := s.st.modify pid fun e => e.afterCheck p }
    let s :=
      if e.breaks p then State.raise { s with su := { s.su with seenContinuity := true } } .continuityError else s
    match e.action with
    | .pass => ({ s with st := s.st.modify pid fun e => { e with released := count e.released } }, .entry pid)
    | .drop => ({ s with st := s.st.modify pid fun e => { e with dropped := count e.dropped } }, .null)
  | none =>
    match s.st.default with
    | .drop => ({ s with st := { s.st with defaultDrops := count s.st.defaultDrops } }, .null)
    | .pass =>
      if s.st.produces pid then ({ s with st := { s.st with shadowedDrops := count s.st.shadowedDrops } }, .null)
      else ({ s with st := { s.st with defaultPasses := count s.st.defaultPasses } }, .noEntry)

/-- The continuity count a packet leaves stage 4 with under an entry (R92). -/
def StreamEntry.outCount (e : StreamEntry) (p : Packet) : Continuity :=
  if e.managed then
    match e.lastOut with
    | none => continuityOf p
    | some q => if payloadPresent p then q + 1 else q
  else continuityOf p

/-- The packet as it leaves stage 4 under an entry: the produced PID and the output count (R91, R92). -/
def StreamEntry.remap (e : StreamEntry) (p : Packet) : Packet :=
  setContinuity (setPid p e.produced) (e.outCount p)

/-- Stage 4 under the entry keyed by `pid`; a payload packet's count becomes the last output continuity (R91, R92). -/
def State.stage4 (s : State) (pid : Pid) (p : Packet) : State × Packet :=
  match s.st.entry? pid with
  | none => (s, p)
  | some e =>
    ({ s with st := s.st.modify pid fun e =>
        { e with lastOut := if payloadPresent p then some (e.outCount p) else e.lastOut } },
     e.remap p)

/-- Stage 5: in MFN mode the clock reference of a packet on a clock-carrier entry is advanced by e = D − A − Dn, D being
the start of the slot and A the packet's arrival (R64, R65). -/
def State.stage5 (s : State) (pid : Pid) (slotStart arrival : SiteTime) (p : Packet) : State × Packet :=
  match s.st.entry? pid with
  | none => (s, p)
  | some e =>
    if s.re.mode = .mfn ∧ e.carrier = true ∧ carriesClock p = true then
      ({ s with dt := { s.dt with counters := { s.dt.counters with clockCorrected := count s.dt.counters.clockCorrected } } },
       correctClock p (siteDiff slotStart arrival - s.dt.nominalDelay))
    else (s, p)

end Sys2Proof.Machine
end

