-- ==== Sys2Proof/Machine/Scan.lean ====
section
/-! DEFINITION. The supervision scan (9.3), the snapshot (10.1) and the trace (10.2). -/

namespace Sys2Proof.Machine

/-- The period a scan setting gives, in milliseconds (R165). -/
def scanPeriodMs (setting : Nat) : Nat :=
  if setting = 0 then 100 else if setting ≤ 200 then setting * 10 else 2000

/-- The scan timer has run its period (R165). -/
def State.scanDue (s : State) : Bool := s.su.scanPeriod ≤ s.tu.localTicks - s.su.scanStart

/-- The scan timer starts from zero with the period now in force (R165). A warm restart, which also starts it, counts as
the expiry from which a new setting applies (DESIGN CHOICE, log entry 36). -/
def State.restartScanTimer (s : State) : State :=
  { s with
    su := { s.su with scanStart := s.tu.localTicks, scanPeriod := scanPeriodMs s.su.scanSetting * ticksPerMs } }

/-! ### The diagnosis conditions (R167) -/

/-- The last group start lies outside 0..27,000,000 ticks before now, or there is none (R167). -/
def State.cadenceAbsent (s : State) : Bool :=
  s.re.mode == .sfn &&
    match s.re.lastGroupStart with
    | none => true
    | some t => !(0 ≤ siteDiff s.tu.time t && siteDiff s.tu.time t ≤ 27000000)

/-- The reference condition REF_IN_HOLDOVER (R81). -/
def RefState.holdoverCondition : RefState → Bool
  | .free => false
  | .qualifying b => b == .holdover
  | .locked => false
  | .holdover => true
  | .expired => false

/-- The reference condition REF_EXPIRED_STATE (R81). -/
def RefState.expiredCondition : RefState → Bool
  | .free => false
  | .qualifying b => b == .expired
  | .locked => false
  | .holdover => false
  | .expired => true

/-- The nine conditions at this instant, in the order of R167. -/
def State.conditions (s : State) : Vector Bool 9 :=
  #v[(s.linkOf .a).down, (s.linkOf .b).down, (s.linkOf .a).down && (s.linkOf .b).down, s.tu.ref.holdoverCondition,
     s.tu.ref.expiredCondition, s.cadenceAbsent, s.su.seenOverflow, s.su.seenUnderrun, s.su.seenContinuity]

/-- A diagnosis factor: the class of its action while its condition is true, else clear (R169). -/
def factorOf (condition : Bool) (action : DiagAction) : DiagAction := if condition then action else .continue

/-- Step 1 of a scan: the conditions are evaluated and kept, and the seen marks cleared (R166, R168). -/
def State.scanConditions (s : State) : State :=
  { s with
    su := { s.su with
            conditions := s.conditions
            seenOverflow := false
            seenUnderrun := false
            seenContinuity := false } }

/-- Step 2 of a scan: the diagnosis factors follow the conditions and the action table, and the gate follows (R169). -/
def State.scanFactors (s : State) : State :=
  State.regate
    { s with su := { s.su with factors := Vector.zipWith factorOf s.su.conditions s.su.actions } }

/-- The factors that are STOP now and were not before (R166, R178). -/
def newStops (before now : Vector DiagAction 9) : Vector Bool 9 :=
  Vector.zipWith (fun b n => n == .stop && b != .stop) before now

/-! ### The snapshot (R178, R179) -/

/-- The factors set, with their classes, numbered as the table of 9.1: MGMT 0, NO_RATE 1, TIMING 2, the diagnosis factors
from 3 (R161). -/
def Supervision.factorsSet (u : Supervision) : List (Nat × DiagAction) :=
  let own : List (Nat × DiagAction) :=
    (match u.mgmt with
     | .run => []
     | .hold => [(0, .hold)]
     | .stop => [(0, .stop)])
    ++ (if u.noRate then [(1, .stop)] else []) ++ (if u.timing then [(2, .stop)] else [])
  own ++ ((List.finRange 9).filterMap fun i =>
    if getAt u.factors i = .continue then none else some (i.val + 3, getAt u.factors i))

/-- A group table as the snapshot records it (R178). -/
def tablePicture (t : List GroupRecord) : TablePicture :=
  { records := t.length
    oldest := t.head?.map fun r =>
      { number := r.number, state := r.state, verdict := r.verdict, received := r.received, missing := r.missing,
        release := r.release } }

/-- The picture of the S640 at this instant (R178). -/
def State.picture (s : State) (taking : Taking) : Snapshot :=
  { taking, time := s.tu.time, scanNumber := s.su.scanNumber
    links := ⟨(s.framer .a).link, (s.framer .b).link, (s.framer .l).link⟩
    intake := ⟨(s.framer .a).counters, (s.framer .b).counters, (s.framer .l).counters⟩
    selected := s.re.selected, fillA := (s.ring .a).fill, fillB := (s.ring .b).fill
    tableA := tablePicture (s.table .a), tableB := tablePicture (s.table .b)
    requested := s.su.requested, effective := s.su.effective, factors := s.su.factorsSet
    ref := s.tu.ref, lastPhase := s.tu.lastPhase, holdBase := s.tu.hold.base, holdRemainder := s.tu.hold.remainder
    holdN := s.tu.hold.n
    channels := s.sc.channels.toList.map fun ch => (ch.state, ch.list.length)
    clips := s.cm.directory.toList.filterMap fun r => if r.state = .free then none else some (r.id, r.use)
    flags := s.su.flags }

/-- Step 3 of a scan: an automatic snapshot is due, and is taken where the record is EMPTY or READ, else counted as
skipped (R178, R179). -/
def State.automaticSnapshot (s : State) (stops : Vector Bool 9) : State :=
  if stops.toList.any id then
    match s.su.snapshot with
    | .held _ =>
      { s with su := { s.su with
                       counters := { s.su.counters with snapshotsSkipped := count s.su.counters.snapshotsSkipped } } }
    | .empty | .read _ =>
      { s with su := { s.su with
                       snapshot := .held (s.picture (.automatic stops))
                       counters := { s.su.counters with snapshotsTaken := count s.su.counters.snapshotsTaken } } }
  else s

/-! ### The trace (R182) -/

def feedNumber : Feed → Nat
  | .a => 0
  | .b => 1

def Effective.number : Effective → Nat
  | .stopped => 0
  | .starting => 1
  | .holding => 2
  | .running => 3

def RefState.number : RefState → Nat
  | .free => 0
  | .qualifying _ => 1
  | .locked => 2
  | .holdover => 3
  | .expired => 4

def ChannelState.number : ChannelState → Nat
  | .disabled => 0
  | .network => 1
  | .armed => 2
  | .out => 3
  | .returning => 4

/-- The value of a trace quantity at this instant (10.2). -/
def State.quantity (s : State) : Quantity → Int
  | .storeFillA => (s.ring .a).fill
  | .storeFillB => (s.ring .b).fill
  | .selectedFeed => feedNumber s.re.selected
  | .gateEffective => s.su.effective.number
  | .refState => s.tu.ref.number
  | .refPhase => s.tu.lastPhase
  | .nullSlots => s.su.trace.nullSlots
  | .gapPositions => s.su.trace.gapPositions
  | .channelState0 => (s.channel 0).state.number
  | .channelState1 => (s.channel 1).state.number
  | .channelState2 => (s.channel 2).state.number
  | .channelState3 => (s.channel 3).state.number
  | .prefetchLow => s.prefetchLow
  | .monitorQueueFill => s.mu.queue.length

/-- The trace with a sample added (R182). -/
def Trace.addSample (t : Trace) (oneShot : Bool) (x : Sample) : Trace :=
  let samples := (if traceMax ≤ t.samples.length then t.samples.drop 1 else t.samples) ++ [x]
  { t with
    samples
    samplesTaken := t.samplesTaken + 1
    nullSlots := 0
    gapPositions := 0
    state := if oneShot ∧ traceMax ≤ samples.length then .filled else t.state }

/-- Step 4 of a scan: a running trace whose divider count is 0 takes a sample; the count goes on modulo 2^k (R182). -/
def State.traceStep (s : State) : State :=
  if s.su.trace.state = .running then
    match s.su.trace.config with
    | none => s
    | some c =>
      let t := s.su.trace
      let sampled :=
        if t.dividerCount = 0 then
          t.addSample c.oneShot
            { scanNumber := s.su.scanNumber, time := s.tu.time, values := c.quantities.map fun q => (q, s.quantity q) }
        else t
      { s with su := { s.su with trace := { sampled with dividerCount := (t.dividerCount + 1) % 2 ^ c.divider } } }
  else s

/-- A null packet begins at port T in this slot: the tally counts while the trace runs (R182; log entries 26 and 45). -/
def State.tallyNull (s : State) : State :=
  if s.su.trace.state = .running then
    { s with su := { s.su with trace := { s.su.trace with nullSlots := count s.su.trace.nullSlots } } }
  else s

/-- A gap position: the tally counts while the trace runs (R182). -/
def State.tallyGap (s : State) : State :=
  if s.su.trace.state = .running then
    { s with su := { s.su with trace := { s.su.trace with gapPositions := count s.su.trace.gapPositions } } }
  else s

/-! ### The scan (R166) -/

/-- Step 5: the scan number is incremented, modulo 2^32. -/
def State.nextScan (s : State) : State := { s with su := { s.su with scanNumber := s.su.scanNumber + 1 } }

/-- A scan, taken whole (R166); the timer starts again (R165). -/
def State.takeScan (s : State) : State :=
  let t := s.scanConditions.scanFactors
  let t := (t.automaticSnapshot (newStops s.su.factors t.su.factors)).traceStep
  t.nextScan.restartScanTimer

end Sys2Proof.Machine
end

