-- ==== Sys2Proof/Machine/Reports.lean ====
section
/-! DEFINITION. The data of the replies, byte for byte: the encodings of 11.6 and, rule by rule, what each reply carries
(log entries 18 and 19 name what 11.6 leaves open). -/

namespace Sys2Proof.Machine

/-! ### The encodings of 11.6 -/

/-- A signed value in four bytes (11.6). -/
def signed4 (i : Int) : List Byte := toSignedBytes 4 i

/-- An optional value: its presence byte, then its bytes if it is present (11.6). -/
def presence {α : Type} (f : α → List Byte) : Option α → List Byte
  | none => [0x00#8]
  | some x => 0x01#8 :: f x

/-- A value or a named alternative: the choice byte, 0 for the value and 1 for the alternative, then the `k` bytes of the
value in every case, 0 where there is none (11.6). -/
def orNamed {α : Type} (k : Nat) (f : α → List Byte) : Option α → List Byte
  | some x => 0x00#8 :: f x
  | none => 0x01#8 :: List.replicate k 0x00#8

/-- A list of varying length with a count of `k` bytes before it (11.6). -/
def counted {α : Type} (k : Nat) (f : α → List Byte) (xs : List α) : List Byte :=
  toBytes k xs.length ++ xs.flatMap f

/-- yes or no, on or off, true or false: the first is 0, the second 1 (11.6). -/
def yesNo (b : Bool) : List Byte := [if b then 0x00#8 else 0x01#8]

/-- A mark: 1 set, 0 clear, as the last-part mark (11.6). -/
def mark (b : Bool) : List Byte := [if b then 0x01#8 else 0x00#8]

/-- A 32-bit counter. -/
def counter (n : Nat) : List Byte := toBytes 4 n

/-- Some counters in order. -/
def counterList (ns : List Nat) : List Byte := ns.flatMap counter

def siteBytes (t : SiteTime) : List Byte := toBytes 4 t.sec.toNat ++ toBytes 4 t.tick

def ptsBytes (p : Pts) : List Byte := toBytes 5 p.toNat

def pidBytes (p : Pid) : List Byte := toBytes 2 p

/-! ### Named choices, in the order in which their rules list them -/

def Mode.number : Mode → Nat
  | .sfn => 0
  | .mfn => 1

def Action.number : Action → Nat
  | .pass => 0
  | .drop => 1

/-- As R172 lists them; R161 tests them from STOP on (DESIGN CHOICE for the requested state, log entry 18). -/
def Gate.number : Gate → Nat
  | .run => 0
  | .hold => 1
  | .stop => 2

def DiagAction.number : DiagAction → Nat
  | .continue => 0
  | .hold => 1
  | .stop => 2

/-- The class of a set factor: HOLD 0, STOP 1 (9.1). -/
def DiagAction.classNumber : DiagAction → Nat
  | .continue => 0
  | .hold => 0
  | .stop => 1

def Link.number : Link → Nat
  | .absent => 0
  | .searching => 1
  | .locked => 2
  | .bridging => 3
  | .lost => 4

def Basis.number : Basis → Nat
  | .free => 0
  | .holdover => 1
  | .expired => 2

/-- The state of a group record in the snapshot: the three of R26 in their order, and RELEASING, which no rule lists with them, as 3
(R178; DESIGN CHOICE, log entry 18). -/
def GroupState.number : GroupState → Nat
  | .filling => 0
  | .complete => 1
  | .short => 2
  | .releasing => 3

/-- A record's verdict in the snapshot, in the order of R13; the tests of R25 stand in another (R178; DESIGN CHOICE, log entry 18). -/
def Verdict.number : Verdict → Nat
  | .onTime => 0
  | .late => 1
  | .early => 2

def Substitution.number : Substitution → Nat
  | .waiting => 0
  | .substituting => 1
  | .returned => 2

def ClipState.number : ClipState → Nat
  | .free => 0
  | .loading => 1
  | .ready => 2
  | .deletePending => 3

def LoadState.number : LoadState → Nat
  | .closed => 0
  | .opened => 1
  | .draining => 2

/-- The last load outcomes in the order of R146. -/
def LoadOutcome.number : LoadOutcome → Nat
  | .loaded => 0
  | .count => 1
  | .crc => 2
  | .noTimestamp => 3
  | .overrun => 4
  | .portLoss => 5
  | .abandoned => 6
  | .restart => 7

def TraceState.number : TraceState → Nat
  | .stopped => 0
  | .waiting => 1
  | .running => 2
  | .filled => 3

def Quantity.number : Quantity → Nat
  | .storeFillA => 0
  | .storeFillB => 1
  | .selectedFeed => 2
  | .gateEffective => 3
  | .refState => 4
  | .refPhase => 5
  | .nullSlots => 6
  | .gapPositions => 7
  | .channelState0 => 8
  | .channelState1 => 9
  | .channelState2 => 10
  | .channelState3 => 11
  | .prefetchLow => 12
  | .monitorQueueFill => 13

/-- The quantities in the order of the table of 10.2. -/
def allQuantities : List Quantity :=
  [.storeFillA, .storeFillB, .selectedFeed, .gateEffective, .refState, .refPhase, .nullSlots, .gapPositions,
   .channelState0, .channelState1, .channelState2, .channelState3, .prefetchLow, .monitorQueueFill]

/-- The quantity with a number, none outside the table (10.2). -/
def quantityOfNumber (n : Nat) : Option Quantity := allQuantities[n]?

/-- A disposition, numbered within the list of R127 for its kind. -/
def Disposition.number : Disposition → Nat
  | .inserted => 0
  | .replaced => 1
  | .duplicate => 2
  | .unmatched => 3
  | .missed => 4
  | .overflow => 5
  | .appliedActive => 0
  | .appliedArmed => 1
  | .appliedListed => 2
  | .cancelled => 3
  | .returned => 0
  | .disarmed => 1
  | .removed => 2
  | .ignored => 3

/-- IGNORED stands fifth among an IN's dispositions and fourth among a CANCEL's (R127). -/
def Disposition.numberFor (k : CueKind) (d : Disposition) : Nat :=
  match k, d with
  | .in_, .ignored => 4
  | _, d => d.number

/-! ### Feed Intake, Delay Store, Release Engine -/

/-- The intake counters of port A or B (R8). -/
def feedCounters (k : IntakeCounters) : List Byte :=
  counterList
    [k.taken, k.syncErrors, k.transportErrors, k.outages, k.losses, k.cadenceBad, k.duplicateCadences, k.groupTableFull,
     k.shortGroups, k.overflowDrops, k.orphans, k.latePositions]

/-- The intake counters of port L (R8). -/
def portLCounters (k : IntakeCounters) : List Byte :=
  counterList [k.taken, k.syncErrors, k.transportErrors, k.outages, k.losses, k.ignored]

def intakeBytes (p : PerPort IntakeCounters) : List Byte := feedCounters p.a ++ feedCounters p.b ++ portLCounters p.l

def linkBytes (p : PerPort Link) : List Byte := toBytes 1 p.a.number ++ toBytes 1 p.b.number ++ toBytes 1 p.l.number

/-- The four accounting counters of a feed, 6 bytes each (R184, 11.6). -/
def accountBytes (a : Accounting) : List Byte :=
  toBytes 6 a.taken.toNat ++ toBytes 6 a.released.toNat ++ toBytes 6 a.discarded.toNat ++ toBytes 6 a.dropped.toNat

def releaseCounterBytes (k : ReleaseCounters) : List Byte :=
  counterList
    [k.lateA, k.lateB, k.earlyA, k.earlyB, k.groupsStarted, k.perGroupFallbacks, k.lateStarts, k.skippedNumbers,
     k.passedGroups, k.staleRecords, k.twinPositions, k.gapPositions, k.overlapPositions, k.changeovers, k.reverts,
     k.mfnIdleSlots]

/-- The values of FEED_POLICY_SET in force (R46). -/
def State.policyBytes (s : State) : List Byte :=
  toBytes 1 (feedNumber s.re.preferred) ++ yesNo s.re.revertive ++ toBytes 4 s.re.revertHold
    ++ toBytes 4 (s.framer .a).bridgingSetting ++ toBytes 4 (s.framer .b).bridgingSetting
    ++ toBytes 4 (s.framer .l).bridgingSetting

/-- The revert timer in whole seconds of site time, none while it is stopped, and 0 where a backward step of site time has left
its start in the future (R47; DESIGN CHOICE, log entry 19). -/
def State.revertSeconds (s : State) : Option Nat :=
  s.re.revertTimer.map fun t => (siteDiff s.tu.time t / 27000000).toNat

/-- The number and next-position index of the group being released (R47). -/
def State.releasingPosition (s : State) : Option (Cadence × Nat) :=
  s.re.releasing.map fun g => (g.number, ((s.record? g.feed g.number).map (·.nextPosition)).getD 0)

/-- The Release Engine's part of STATUS_READ (R47): the group being released, its number and next-position index, stands behind
one presence byte (DESIGN CHOICE, log entry 18). -/
def State.releaseStatus (s : State) : List Byte :=
  toBytes 1 s.re.mode.number ++ toBytes 1 (feedNumber s.re.selected) ++ toBytes 1 (feedNumber s.re.preferred)
    ++ yesNo s.re.revertive ++ toBytes 4 s.re.revertHold ++ presence (toBytes 4) s.revertSeconds
    ++ mark s.re.changeoverPending ++ mark s.re.revertPending
    ++ presence (fun p : Cadence × Nat => toBytes 2 p.1.toNat ++ toBytes 2 p.2) s.releasingPosition
    ++ presence (fun n : Cadence => toBytes 2 n.toNat) s.re.lastStarted

/-! ### Departure Timer, Timing Unit -/

def pendingRateBytes (c : PendingRate) : List Byte := toBytes 4 c.rate ++ toBytes 2 c.cadence.toNat

def pendingOffsetBytes (c : PendingOffset) : List Byte := signed4 c.offset ++ toBytes 2 c.cadence.toNat

/-- RATE_SET's reply: the rate in force, the rate in use by the pacer, the pending change (R59). A pacer without a rate in use,
or no pending change, is a presence byte 0 alone (DESIGN CHOICE, log entry 18). -/
def DepartureTimer.rateBytes (d : DepartureTimer) : List Byte :=
  toBytes 4 (d.rate.getD 0) ++ presence (fun p : Pacer => toBytes 4 p.rate) d.pacer
    ++ presence pendingRateBytes d.pendingRate

/-- OFFSET_SET's reply: O in force and the pending change (R60). -/
def DepartureTimer.offsetBytes (d : DepartureTimer) : List Byte :=
  signed4 d.offset ++ presence pendingOffsetBytes d.pendingOffset

/-- The nominal delay in milliseconds (R63). -/
def DepartureTimer.delayBytes (d : DepartureTimer) : List Byte := toBytes 4 (d.nominalDelay / ticksPerMs)

/-- The Departure Timer's part of STATUS_READ (R66). R "unset" and next slot "none" are read as named alternatives of
11.6 (DEDUCED, log entry 18). The rate in use by the pacer, q and r stand behind one presence byte, which is 0 with nothing
after it while the pacer has no rate in use: R66 and 11.6 leave that layout open (DESIGN CHOICE, log entry 18). Dn is sent in
ticks, as the timer holds it (DEDUCED from R63 and R67, log entry 19); the milliseconds of R63 belong to DELAY_SET's reply. -/
def DepartureTimer.status (d : DepartureTimer) : List Byte :=
  orNamed 4 (toBytes 4) d.rate
    ++ presence (fun p : Pacer => toBytes 4 p.rate ++ toBytes 2 p.quotient ++ toBytes 4 p.remainder) d.pacer
    ++ orNamed 8 siteBytes d.nextSlot ++ signed4 d.offset ++ toBytes 4 d.nominalDelay
    ++ presence pendingRateBytes d.pendingRate ++ presence pendingOffsetBytes d.pendingOffset

def departureCounterBytes (k : DepartureCounters) : List Byte :=
  counterList [k.slots, k.rateChanges, k.offsetChanges, k.pendingReplaced, k.clockCorrected]

/-- The basis of a qualification, absent in every other state (R73). -/
def RefState.basis? : RefState → Option Basis
  | .free => none
  | .qualifying b => some b
  | .locked => none
  | .holdover => none
  | .expired => none

/-- The reference state with its basis (R85, R86). -/
def refBytes (r : RefState) : List Byte :=
  toBytes 1 r.number ++ presence (fun b : Basis => toBytes 1 b.number) r.basis?

/-- HOLDOVER_SET's reply (R85). -/
def TimingUnit.holdoverBytes (t : TimingUnit) : List Byte := toBytes 4 t.limit ++ refBytes t.ref ++ toBytes 4 t.elapsed

/-- The Timing Unit's part of STATUS_READ (R86). That REF 10 MHz is present is sent as a mark, 1 for present (DESIGN CHOICE,
log entry 18). -/
def TimingUnit.status (t : TimingUnit) : List Byte :=
  siteBytes t.time ++ refBytes t.ref ++ toBytes 1 t.run ++ mark t.lockedSincePowerOn ++ signed4 t.lastPhase
    ++ toSignedBytes 8 t.lastStep ++ toBytes 1 t.history.length ++ toBytes 4 t.hold.base ++ toBytes 1 t.hold.remainder
    ++ toBytes 1 t.hold.n ++ toBytes 1 t.hold.acc ++ toBytes 4 t.elapsed ++ toBytes 4 t.limit ++ mark t.freq10

def timingCounterBytes (k : TimingCounters) : List Byte :=
  counterList
    [k.pulses, k.good, k.badCount, k.badTime, k.freqAbsent, k.missing, k.phaseFaults, k.freqLosses, k.holdoverEntries,
     k.locks, k.steps]

/-! ### Stream Table -/

def continuityBytes (c : Continuity) : List Byte := toBytes 1 c.toNat

/-- An entry as replies carry it (R100). -/
def entryBytes (e : StreamEntry) : List Byte :=
  pidBytes e.inPid ++ toBytes 1 e.action.number ++ presence pidBytes e.outPid ++ yesNo e.managed ++ yesNo e.carrier
    ++ yesNo e.check ++ presence continuityBytes e.lastIn ++ presence continuityBytes e.lastOut
    ++ counterList [e.released, e.dropped, e.errors]

def tableCounterBytes (t : StreamTable) : List Byte :=
  counterList [t.defaultPasses, t.defaultDrops, t.shadowedDrops]

/-- STREAM_READ ALL's reply (R100). -/
def StreamTable.allBytes (t : StreamTable) : List Byte :=
  counted 1 entryBytes t.entries ++ toBytes 1 t.default.number ++ toBytes 1 t.entries.length ++ tableCounterBytes t

/-! ### Splice Controller -/

/-- A channel's configuration (6.1); the component count serves as the list's count byte. -/
def Channel.configBytes (ch : Channel) : List Byte :=
  yesNo ch.enabled ++ presence pidBytes ch.cuePid ++ counted 1 pidBytes ch.pids

def Channel.stateByte (ch : Channel) : List Byte := toBytes 1 ch.state.number

/-- A cue of the list with all its fields; its kind is OUT (6.3, R125). Its clip id is given as a value or as absent beside
window base and return override, and so has a presence byte, always 1 since a cue without one is not listed (R107, R125; DEDUCED,
log entry 18). -/
def listedBytes (q : ListedCue) : List Byte :=
  toBytes 4 q.event ++ toBytes 1 0 ++ presence ptsBytes q.time ++ presence (toBytes 4) q.duration ++ toBytes 1 q.avail
    ++ presence (toBytes 2) (some q.clip) ++ presence ptsBytes q.windowBase ++ presence ptsBytes q.returnOverride

/-- The active splice record, the fields set at splice-out absent before it, with the forced mark (6.1, R125): each of those
fields behind a presence byte of its own, the mark sent in either case (DESIGN CHOICE, log entry 18). -/
def activeBytes (a : ActiveSplice) : List Byte :=
  toBytes 4 a.event ++ toBytes 2 a.clip ++ presence ptsBytes a.time ++ presence (toBytes 4) a.duration
    ++ presence ptsBytes a.returnOverride
    ++ presence ptsBytes (a.out.map (·.pts)) ++ presence ptsBytes (a.out.map (·.offset))
    ++ presence ptsBytes (a.out.map (·.returnTime)) ++ presence siteBytes (a.out.map (·.siteTime))
    ++ presence siteBytes (a.out.map (·.forcedAt)) ++ mark ((a.out.map (·.forced)).getD false)

/-- The read pointer: a stored position (choice 0) or "end" (choice 1) (R125, R143). -/
def pointerBytes (p : Option Nat) : List Byte := orNamed 4 (toBytes 4) p

/-- A component's substitution state as reported: RETURNED outside OUT and RETURNING (6.1). -/
def Channel.reportedSubst (ch : Channel) (k : Fin 4) : Substitution :=
  if ch.state.onAir then getAt ch.subst k else .returned

def State.componentBytes (s : State) (c k : Fin 4) : List Byte :=
  let q := getAt s.cm.prefetch (componentIndex c k)
  toBytes 1 ((s.channel c).reportedSubst k).number ++ pointerBytes q.pointer ++ mark q.exhausted

/-- The cue counters (R129), then the substitution counters (R160). -/
def channelCounterBytes (k : ChannelCounters) : List Byte :=
  counterList
    [k.cuesTaken, k.badCuePackets, k.unmatched, k.overflow, k.replaced, k.duplicates, k.missed, k.cancelled, k.insIgnored,
     k.cancelsIgnored, k.disarms, k.spliceOuts, k.returns, k.forcedReturns, k.clipPlayed, k.exhaustedNulls,
     k.underrunNulls, k.clocksStuffed, k.timestampsRebased, k.abandoned]

/-- CHANNEL_READ's reply for a channel (R125). The part that stands for each component has no count byte of its own: the
component count that the configuration carries serves for it too, though it does not stand just before it as 11.6 has it
(DESIGN CHOICE, log entry 18). -/
def State.channelBytes (s : State) (c : Fin 4) : List Byte :=
  let ch := s.channel c
  ch.configBytes ++ ch.stateByte ++ presence ptsBytes ch.lastPts ++ counted 1 listedBytes ch.list
    ++ presence activeBytes ch.active ++ ch.components.flatMap (s.componentBytes c) ++ channelCounterBytes ch.counters

/-- An entry of the cue match table (R107, R126). -/
def matchBytes (e : CueMatch) : List Byte :=
  yesNo e.enabled ++ toBytes 1 e.avail ++ toBytes 1 e.mask.toNat ++ presence (toBytes 2) e.clip

/-- CHANNEL_READ MATCH_TABLE's reply (R125). -/
def SpliceController.matchTableBytes (sc : SpliceController) : List Byte := sc.cueMatches.toList.flatMap matchBytes

/-! ### Clip Memory Controller -/

def clipCounterBytes (k : ClipCounters) : List Byte :=
  counterList
    [k.loadsBegun, k.clipsLoaded, k.loadsFailed, k.accepted, k.excess, k.loadWrites, k.prefetchReads, k.deletes,
     k.deferredDeletes]

/-- CLIP_DIRECTORY_READ's reply for one clip (R146). -/
def clipBytes (i : Nat) (r : ClipRecord) : List Byte :=
  toBytes 1 i ++ toBytes 2 r.id ++ toBytes 1 r.state.number ++ toBytes 1 r.use ++ toBytes 4 r.count
    ++ toBytes 4 r.declared ++ toBytes 1 r.components ++ (r.firstPts.toList.take r.components).flatMap (presence ptsBytes)
    ++ toBytes 4 r.duration ++ toBytes 4 r.crc.toNat ++ counted 2 (toBytes 2) r.pages

/-- A record in CLIP_DIRECTORY_READ ALL (R146). -/
def clipLine (x : Nat × ClipRecord) : List Byte :=
  toBytes 1 x.1 ++ toBytes 2 x.2.id ++ toBytes 1 x.2.state.number ++ toBytes 1 x.2.use ++ toBytes 2 x.2.pages.length
    ++ toBytes 4 x.2.count ++ toBytes 4 x.2.declared ++ toBytes 1 x.2.components ++ toBytes 4 x.2.duration
    ++ toBytes 4 x.2.crc.toNat

/-- The records other than FREE, in index order, each with its index. -/
def ClipController.listed (m : ClipController) : List (Nat × ClipRecord) :=
  (List.finRange 64).filterMap fun i => if (m.record i).state = .free then none else some (i.val, m.record i)

/-- The load in progress: clip id, packet count, write-buffer length; none when CLOSED (R146). -/
def ClipController.loadLine (m : ClipController) : Option (List Byte) :=
  if m.load.state = .closed then none
  else
    some (toBytes 2 (m.record m.load.record).id ++ toBytes 4 (m.record m.load.record).count
      ++ toBytes 1 m.load.buffer.length)

/-- The last load outcome with its clip id, or "none" (R146). -/
def outcomeBytes (o : Option (LoadOutcome × Nat)) : List Byte :=
  match o with
  | some (r, id) => toBytes 1 r.number ++ toBytes 2 id
  | none => toBytes 1 8 ++ toBytes 2 0

/-- CLIP_DIRECTORY_READ ALL's reply (R146). -/
def ClipController.allBytes (m : ClipController) : List Byte :=
  counted 1 clipLine m.listed ++ toBytes 2 m.freeList.length ++ toBytes 1 m.load.state.number
    ++ presence id m.loadLine ++ outcomeBytes m.lastOutcome

/-! ### Supervision Unit -/

/-- The factors set, each with its class (R161, R172): a count byte, then the number and the class of each (DESIGN CHOICE, log
entry 18). -/
def factorBytes (fs : List (Nat × DiagAction)) : List Byte :=
  counted 1 (fun f : Nat × DiagAction => toBytes 1 f.1 ++ toBytes 1 f.2.classNumber) fs

/-- The gate's part of STATUS_READ (R193). -/
def Supervision.gateBytes (u : Supervision) : List Byte :=
  toBytes 1 u.requested.number ++ toBytes 1 u.effective.number ++ factorBytes u.factorsSet

/-- DIAG_ACTION_WRITE's reply: the action table with the value of each condition at the last scan (R173). The value of each
condition follows its own action: R173 does not say whether it does, or whether the nine values follow the whole table
(DESIGN CHOICE, log entry 18). -/
def Supervision.actionBytes (u : Supervision) : List Byte :=
  (List.finRange 9).flatMap fun i => toBytes 1 (getAt u.actions i).number ++ yesNo (getAt u.conditions i)

/-- A set of flags: flag 0 at bit 0 of the last byte (11.6). -/
def flagSetBytes (f : BitVec 26) : List Byte := toBytes 4 f.toNat

/-- SCAN_SET's reply: the setting, its period in milliseconds, the scan number (R174). -/
def Supervision.scanBytes (u : Supervision) : List Byte :=
  toBytes 2 u.scanSetting ++ toBytes 2 (scanPeriodMs u.scanSetting) ++ toBytes 4 u.scanNumber.toNat

/-- The masks in the order of 9.4: masked 0, unmasked 1 (R176). -/
def Supervision.maskBytes (u : Supervision) : List Byte :=
  (List.range 26).flatMap fun i => mark (u.unmasked.getLsbD i)

/-- The set of factors newly STOP as a bit set, the first condition of 9.3 at bit 0. -/
def stopSet (v : Vector Bool 9) : Nat := v.toList.foldr (fun b n => b.toNat + 2 * n) 0

/-- How a snapshot was taken (R178): the choice, then the set of diagnosis factors newly STOP as a bit set of two bytes, zeros
for COMMAND. 11.6 lays down bit sets for flags, classes and channels alone, so this layout is the model's (DESIGN CHOICE, log
entry 18). -/
def takingBytes (t : Taking) : List Byte :=
  match t with
  | .automatic v => toBytes 1 0 ++ toBytes 2 (stopSet v)
  | .command => toBytes 1 1 ++ toBytes 2 0

def oldestBytes (r : OldestRecord) : List Byte :=
  toBytes 2 r.number.toNat ++ toBytes 1 r.state.number ++ toBytes 1 r.verdict.number ++ toBytes 2 r.received
    ++ toBytes 2 r.missing ++ siteBytes r.release

/-- A table's number of records and its oldest record, or "empty", a named alternative of 11.6 (R178; log entry 18). -/
def tableBytes (t : TablePicture) : List Byte := toBytes 1 t.records ++ orNamed 16 oldestBytes t.oldest

/-- The snapshot record, part by part (R178): the four channels without a count, the clips behind a count byte (11.6; log
entry 18). -/
def snapshotBytes (r : Snapshot) : List Byte :=
  takingBytes r.taking ++ siteBytes r.time ++ toBytes 4 r.scanNumber.toNat ++ linkBytes r.links ++ intakeBytes r.intake
    ++ toBytes 1 (feedNumber r.selected) ++ toBytes 2 r.fillA ++ toBytes 2 r.fillB ++ tableBytes r.tableA
    ++ tableBytes r.tableB ++ toBytes 1 r.requested.number ++ toBytes 1 r.effective.number ++ factorBytes r.factors
    ++ refBytes r.ref ++ signed4 r.lastPhase ++ toBytes 4 r.holdBase ++ toBytes 1 r.holdRemainder ++ toBytes 1 r.holdN
    ++ r.channels.flatMap (fun c => toBytes 1 c.1.number ++ toBytes 1 c.2)
    ++ counted 1 (fun c : Nat × Nat => toBytes 2 c.1 ++ toBytes 1 c.2) r.clips ++ flagSetBytes r.flags

/-- The trace configuration (10.2): the start is IMMEDIATE (0) or ON_FLAG (1), the byte of the flag number following in either
case (11.6; log entry 18). -/
def traceConfigBytes (c : TraceConfig) : List Byte :=
  counted 1 (fun q : Quantity => toBytes 1 q.number) c.quantities ++ toBytes 1 c.divider
    ++ toBytes 1 c.oneShot.toNat ++ toBytes 1 c.onFlag.isSome.toNat
    ++ toBytes 1 ((c.onFlag.map EventFlag.number).getD 0)

/-- The bytes of a sampled value, in the fewest that hold its range (10.2, 11.6). -/
def valueBytes (v : Quantity × Int) : List Byte :=
  match v.1 with
  | .storeFillA => toBytes 2 v.2.toNat
  | .storeFillB => toBytes 2 v.2.toNat
  | .refPhase => signed4 v.2
  | .nullSlots => toBytes 4 v.2.toNat
  | .gapPositions => toBytes 4 v.2.toNat
  | .selectedFeed => toBytes 1 v.2.toNat
  | .gateEffective => toBytes 1 v.2.toNat
  | .refState => toBytes 1 v.2.toNat
  | .channelState0 => toBytes 1 v.2.toNat
  | .channelState1 => toBytes 1 v.2.toNat
  | .channelState2 => toBytes 1 v.2.toNat
  | .channelState3 => toBytes 1 v.2.toNat
  | .prefetchLow => toBytes 1 v.2.toNat
  | .monitorQueueFill => toBytes 1 v.2.toNat

def sampleBytes (x : Sample) : List Byte :=
  toBytes 4 x.scanNumber.toNat ++ siteBytes x.time ++ x.values.flatMap valueBytes

/-- TRACE_READ's reply (R183). -/
def Trace.readBytes (t : Trace) (first n : Nat) : List Byte :=
  presence traceConfigBytes t.config ++ toBytes 1 t.state.number ++ toBytes 2 t.samples.length
    ++ toBytes 4 t.samplesTaken.toNat ++ counted 2 sampleBytes ((t.samples.drop first).take n)

/-- The counters of the Supervision Unit, those of chapter 9 before those of chapter 10 (R177, R185): R184 does not order
them (DESIGN CHOICE, log entry 34). -/
def supervisionCounterBytes (k : SupervisionCounters) : List Byte :=
  counterList [k.gateChanges, k.noticesQueued, k.snapshotsTaken, k.snapshotsSkipped, k.traceStarts]

/-! ### Management Unit -/

def managementCounterBytes (k : ManagementCounters) : List Byte :=
  counterList
    [k.acceptedPortL, k.acceptedFeeds, k.crcFailures, k.addressMismatches, k.authorityRefusals, k.unknownCommands,
     k.repliesFormed, k.replyPartsDropped, k.noticesDropped]

/-- ADDRESS_WRITE's reply (R194). -/
def Management.addressBytes (m : Management) : List Byte :=
  toBytes 2 m.unitAddress.toNat ++ toBytes 2 m.group0 ++ toBytes 2 m.group1

def Management.maskBytes (m : Management) : List Byte := toBytes 1 m.authority.toNat

/-- STATUS_READ's reply (R193). -/
def State.statusBytes (s : State) : List Byte :=
  s.releaseStatus ++ s.dt.status ++ s.tu.status ++ s.su.gateBytes
    ++ linkBytes ⟨(s.framer .a).link, (s.framer .b).link, (s.framer .l).link⟩
    ++ s.sc.channels.toList.flatMap Channel.stateByte ++ toBytes 1 s.cm.load.state.number
    ++ s.mu.addressBytes ++ s.mu.maskBytes ++ toBytes 1 s.mu.queue.length

/-! ### COUNTERS_READ (R184) -/

/-- The blocks COUNTERS_READ can select, in the order of R184. -/
inductive Block where
  | fi
  | ds
  | re
  | dt
  | tu
  | st
  | sc
  | cm
  | su
  | mu
deriving DecidableEq, Repr

/-- The blocks in the order of R184. -/
def allBlocks : List Block := [.fi, .ds, .re, .dt, .tu, .st, .sc, .cm, .su, .mu]

/-- The counters of a block as the reply carries them (R184): those of the stream table's entries behind a count byte (11.6;
log entry 18). -/
def State.blockBytes (s : State) : Block → List Byte
  | .fi => intakeBytes ⟨(s.framer .a).counters, (s.framer .b).counters, (s.framer .l).counters⟩
  | .ds => accountBytes s.ds.accounts.a ++ accountBytes s.ds.accounts.b
  | .re => releaseCounterBytes s.re.counters
  | .dt => departureCounterBytes s.dt.counters
  | .tu => timingCounterBytes s.tu.counters
  | .st =>
    tableCounterBytes s.st
      ++ counted 1 (fun e : StreamEntry => counterList [e.released, e.dropped, e.errors]) s.st.entries
  | .sc => s.sc.channels.toList.flatMap fun ch => channelCounterBytes ch.counters
  | .cm => clipCounterBytes s.cm.counters
  | .su => supervisionCounterBytes s.su.counters
  | .mu => managementCounterBytes s.mu.counters

/-- An entry with its counters at 0 (R102). -/
def StreamEntry.cleared (e : StreamEntry) : StreamEntry := { e with released := 0, dropped := 0, errors := 0 }

/-- The table with its counters and those of its entries at 0 (R102). -/
def StreamTable.clearCounters (t : StreamTable) : StreamTable :=
  { t with entries := t.entries.map StreamEntry.cleared, defaultPasses := 0, defaultDrops := 0, shadowedDrops := 0 }

/-- Every channel's counters at 0 (R129, R160). -/
def SpliceController.clearCounters (sc : SpliceController) : SpliceController :=
  { sc with channels := sc.channels.map fun ch => { ch with counters := .zero } }

/-- Every framer's intake counters at 0 (R8). -/
def FeedIntake.clearCounters (fi : FeedIntake) : FeedIntake :=
  { fi with
    framers := ⟨{ fi.framers.a with counters := .zero }, { fi.framers.b with counters := .zero },
                { fi.framers.l with counters := .zero }⟩ }

/-- The counters of a block set to 0; the accounting counters are never cleared (R184). -/
def State.clearBlock (s : State) : Block → State
  | .fi => { s with fi := s.fi.clearCounters }
  | .ds => s
  | .re => { s with re := { s.re with counters := .zero } }
  | .dt => { s with dt := { s.dt with counters := .zero } }
  | .tu => { s with tu := { s.tu with counters := .zero } }
  | .st => { s with st := s.st.clearCounters }
  | .sc => { s with sc := s.sc.clearCounters }
  | .cm => { s with cm := { s.cm with counters := .zero } }
  | .su => { s with su := { s.su with counters := .zero } }
  | .mu => { s with mu := { s.mu with counters := .zero } }

end Sys2Proof.Machine
end

