-- ==== Sys2Proof/Machine/Commands.lean ====
section
/-! DEFINITION. What each management command does (chapters 2 to 11): one operation per command of the catalogue, which
answers the state after it, the status and the reply's data; and the Management Unit's acceptance, decoding, refusals and
replies (R187 to R190, R196). -/

namespace Sys2Proof.Machine

/-- What an executed command gives: the state after it, its status and its data (R189, R190). -/
structure Result where
  state : State
  status : Status
  data : List Byte
deriving DecidableEq, Repr

/-- A refused command changes nothing and carries no data (R190). -/
def State.refuse (s : State) (status : Status) : Result := ⟨s, status, []⟩

/-- A command that is done. -/
def State.done (s : State) (data : List Byte) : Result := ⟨s, .done, data⟩

/-- Channel number `n`, if it lies in 0..3 (6.7). -/
def channelNumber (n : Nat) : Option (Fin 4) := if h : n < 4 then some ⟨n, h⟩ else none

/-! ### Chapter 2 -/

/-- The Delay Store emptied at a change of mode: HELD slots discarded and counted, tables emptied, no open group, write
indices 0 (R19). -/
def State.emptyStore (s : State) (f : Feed) : State :=
  let s := ((s.discardSlots f fun _ => true).setTable f []).setOpen f none
  s.setRing f { s.ring f with writeIndex := 0 }

/-- The mode changes (R45): the store emptied, the Release Engine's record of past groups and packets absent, pending
changes emptied, the slots stopped in SFN and anchored now in MFN where a rate is set (R58), the TIMING factor handed over
(R82). -/
def State.changeMode (s : State) (m : Mode) : State :=
  let s := (s.emptyStore .a).emptyStore .b
  let s :=
    { s with
      re := { s.re with
              mode := m, candidate := none, releasing := none, lastStarted := none, lastGroupStart := none
              readIndex := ⟨0, 0⟩, lastReleasedArrival := none }
      dt := { s.dt with reanchor := false, nextSlot := none, pendingRate := none, pendingOffset := none } }
  s.anchorMfn.handTiming

/-- MODE_SET (R45). -/
def State.doModeSet (s : State) (mode : Nat) : Result :=
  match mode with
  | 0 | 1 =>
    let m : Mode := if mode = 0 then .sfn else .mfn
    if s.su.effective ≠ .stopped then s.refuse .state
    else if s.re.mode = m then s.done []
    else (s.changeMode m).done []
  | _ => s.refuse .range

/-- The feed a named choice names (R46). -/
def feedOfNumber (n : Nat) : Option Feed :=
  match n with
  | 0 => some .a
  | 1 => some .b
  | _ => none

/-- The policy's values stored together (R46). -/
def State.setPolicy (s : State) (preferred : Feed) (p : FeedPolicyParams) : State :=
  let kept := s.re.preferred = preferred
  let s := s.modifyFramer .a fun x => { x with bridgingSetting := p.bridgingA }
  let s := s.modifyFramer .b fun x => { x with bridgingSetting := p.bridgingB }
  let s := s.modifyFramer .l fun x => { x with bridgingSetting := p.bridgingL }
  { s with
    re := { s.re with
            preferred
            revertive := p.policy == 0
            revertHold := clamp 1 600 p.hold
            revertTimer := if kept then s.re.revertTimer else none } }

/-- A revert becomes pending where the running timer has reached the hold (R37, R46). -/
def State.pendRevert (s : State) : State :=
  if s.revertTimerReached then { s with re := { s.re with revertPending := true } } else s

/-- FEED_POLICY_SET (R46). A revert that was pending stays pending where its condition goes on holding, also under a hold made longer than
the timer has run (DESIGN CHOICE, log entry 46). -/
def State.doFeedPolicySet (s : State) (p : FeedPolicyParams) : Result :=
  match feedOfNumber p.preferred with
  | none => s.refuse .range
  | some preferred =>
    if 1 < p.policy then s.refuse .range
    else
      let s := (s.setPolicy preferred p).judgeRevert.pendRevert
      s.done s.policyBytes

/-! ### Chapter 3 -/

/-- A pending change is replaced or withdrawn: counted where one was held (R59, R60, R61). -/
def DepartureTimer.countReplaced (d : DepartureTimer) (held : Bool) : DepartureTimer :=
  { d with counters := { d.counters with pendingReplaced := countIf held d.counters.pendingReplaced } }

/-- A rate taken NOW (R59): in SFN mode the pacer keeps its own until the next group start; in MFN mode pacing begins at
once where no rate had been set, else the next slot is a new anchor. -/
def State.rateNow (s : State) (rate : Nat) : State :=
  let first := s.dt.rate.isNone
  let d := { s.dt.countReplaced s.dt.pendingRate.isSome with rate := some rate, pendingRate := none }
  if first then
    let s := { s with dt := d }.anchorMfn
    { s with su := { s.su with noRate := false } }.regate
  else { s with dt := { d with reanchor := s.re.mode == .mfn || d.reanchor } }

/-- RATE_SET (R59, R61). -/
def State.doRateSet (s : State) (rate : Nat) (t : TimingParam) : Result :=
  if rate < 1000000 ∨ 72000000 < rate ∨ 1 < t.choice then s.refuse .range
  else if t.choice = 1 then
    if s.re.mode = .mfn ∨ s.dt.rate = none then s.refuse .state
    else
      let s := { s with dt := { s.dt.countReplaced s.dt.pendingRate.isSome with pendingRate := some ⟨rate, t.cadence⟩ } }
      s.done s.dt.rateBytes
  else
    let s := s.rateNow rate
    s.done s.dt.rateBytes

/-- OFFSET_SET (R60, R61). -/
def State.doOffsetSet (s : State) (offset : Int) (t : TimingParam) : Result :=
  let o := clampInt (-27000000) 27000000 offset
  if 1 < t.choice then s.refuse .range
  else if t.choice = 1 then
    if s.re.mode = .mfn then s.refuse .state
    else
      let s := { s with dt := { s.dt.countReplaced s.dt.pendingOffset.isSome with pendingOffset := some ⟨o, t.cadence⟩ } }
      s.done s.dt.offsetBytes
  else
    let s := { s with dt := { s.dt.countReplaced s.dt.pendingOffset.isSome with offset := o, pendingOffset := none } }
    s.done s.dt.offsetBytes

/-- DELAY_SET (R63). -/
def State.doDelaySet (s : State) (ms : Nat) : Result :=
  let s := { s with dt := { s.dt with nominalDelay := clamp 1 500 ms * ticksPerMs } }
  s.done s.dt.delayBytes

/-! ### Chapter 4 -/

/-- TIME_SET (R84). -/
def State.doTimeSet (s : State) (sec : Seconds) : Result :=
  if s.tu.ref = .free then
    let s := s.stepTime ⟨sec, s.tu.time.tick⟩
    s.done (siteBytes s.tu.time)
  else s.refuse .state

/-- HOLDOVER_SET (R85). -/
def State.doHoldoverSet (s : State) (limit : Nat) : Result :=
  let s := State.checkExpiry { s with tu := { s.tu with limit := clamp 10 86400 limit } }
  s.done s.tu.holdoverBytes

/-! ### Chapter 5 -/

/-- The entry is a component entry: its input PID is a component of a channel other than DISABLED (R96). -/
def State.componentEntry (s : State) (pid : Pid) : Bool := (s.componentChannel pid).isSome

/-- A yes-or-no byte: 0 yes, 1 no. -/
def flagOfByte (n : Nat) : Option Bool :=
  match n with
  | 0 => some true
  | 1 => some false
  | _ => none

def actionOfByte (n : Nat) : Option Action :=
  match n with
  | 0 => some .pass
  | 1 => some .drop
  | _ => none

/-- The fields STREAM_WRITE carries as an entry, none where a value is out of its range (R97, check 1; R98). -/
def streamFields (p : StreamWriteParams) : Option StreamEntry :=
  match actionOfByte p.action, flagOfByte p.managed, flagOfByte p.carrier, flagOfByte p.check with
  | some action, some managed, some carrier, some check =>
    if usablePid p.inPid && p.outPid.all usablePid then
      some { inPid := p.inPid, action, outPid := p.outPid, managed, carrier, check, lastIn := none, lastOut := none,
             released := 0, dropped := 0, errors := 0 }
    else none
  | _, _, _, _ => none

/-- An existing entry keeps its continuity counts and counters under new fields (R98). -/
def StreamEntry.keeping (new : StreamEntry) (old : Option StreamEntry) : StreamEntry :=
  match old with
  | none => new
  | some o =>
    { new with lastIn := o.lastIn, lastOut := o.lastOut, released := o.released, dropped := o.dropped, errors := o.errors }

/-- Another PASS entry has the produced PID of `e`, itself a PASS entry (R95). -/
def StreamTable.conflicts (t : StreamTable) (e : StreamEntry) : Bool :=
  e.action == .pass && t.entries.any fun x => x.inPid != e.inPid && x.action == .pass && x.produced == e.produced

/-- A component entry is PASS, has continuity managed and is not a clock carrier (R96). -/
def StreamEntry.lawful (e : StreamEntry) : Bool := e.action == .pass && e.managed && !e.carrier

/-- STREAM_WRITE (R97, R98). -/
def State.doStreamWrite (s : State) (p : StreamWriteParams) : Result :=
  match streamFields p with
  | none => s.refuse .range
  | some new =>
    let old := s.st.entry? p.inPid
    if old.isNone ∧ streamEntries ≤ s.st.entries.length then s.refuse .noSpace
    else if s.st.conflicts new then s.refuse .conflict
    else if s.componentEntry p.inPid ∧ new.lawful = false then s.refuse .conflict
    else
      let e := new.keeping old
      State.done { s with st := { s.st with entries := insertEntry e s.st.entries } } (entryBytes e)

/-- STREAM_ERASE (R99). -/
def State.doStreamErase (s : State) (pid : Nat) : Result :=
  if !usablePid pid then s.refuse .range
  else
    match s.st.entry? pid with
    | none => s.refuse .notFound
    | some e =>
      if s.componentEntry pid then s.refuse .conflict
      else
        State.done { s with st := { s.st with entries := s.st.entries.filter fun x => x.inPid != pid } } (entryBytes e)

/-- STREAM_READ (R100): choice 0 one PID, 1 ALL. -/
def State.doStreamRead (s : State) (choice pid : Nat) : Result :=
  match choice with
  | 0 =>
    if !usablePid pid then s.refuse .range
    else
      match s.st.entry? pid with
      | none => s.refuse .notFound
      | some e => s.done (entryBytes e)
  | 1 => s.done s.st.allBytes
  | _ => s.refuse .range

/-- DEFAULT_ACTION_SET (R101). -/
def State.doDefaultActionSet (s : State) (action : Nat) : Result :=
  match actionOfByte action with
  | none => s.refuse .range
  | some a => State.done { s with st := { s.st with default := a } } (toBytes 1 a.number)

/-! ### Chapter 6 -/

/-- Some channel other than `c`, other than DISABLED, has the property. -/
def State.otherEnabled (s : State) (c : Fin 4) (p : Channel → Bool) : Bool :=
  (List.finRange 4).any fun d => d != c && (s.channel d).state != .disabled && p (s.channel d)

/-- The entry of a PID may be a component's (R96, R123). -/
def State.lawfulEntry (s : State) (pid : Pid) : Bool :=
  match s.st.entry? pid with
  | none => false
  | some e => e.lawful

/-- CHANNEL_SET with enabled yes conflicts (R123, check 3). -/
def State.channelConflict (s : State) (c : Fin 4) (cue : Pid) (pids : List Pid) : Bool :=
  !decide pids.Nodup || pids.contains cue
    || (cue :: pids).any (fun x => s.otherEnabled c fun ch => ch.pids.contains x)
    || pids.any (fun x => s.otherEnabled c fun ch => ch.cuePid == some x)
    || pids.any (fun x => !s.lawfulEntry x)

/-- The configuration of a channel replaced (R123); the last released primary PTS becomes absent where the primary PID
changes (R105). -/
def Channel.configure (ch : Channel) (enabled : Bool) (cue : Pid) (pids : List Pid) : Channel :=
  { ch with enabled, cuePid := some cue, pids, lastPts := if ch.pids.head? = pids.head? then ch.lastPts else none }

/-- The channel's list is emptied, each cue counted as cancelled (R123, R124, R128). -/
def Channel.emptyList (ch : Channel) : Channel :=
  { ch with
    list := []
    counters := { ch.counters with cancelled := countBy ch.counters.cancelled ch.list.length } }

/-- CHANNEL_SET with enabled yes takes effect (R123). -/
def State.enableChannel (s : State) (c : Fin 4) (cue : Pid) (pids : List Pid) : State :=
  let s := s.modifyChannel c fun ch =>
    match ch.state with
    | .disabled => { ch.configure true cue pids with state := .network, list := [], lastPts := none }
    | _ => ch.configure true cue pids
  s.armingTest c

/-- CHANNEL_SET (R123). -/
def State.doChannelSet (s : State) (p : ChannelSetParams) : Result :=
  match channelNumber p.channel, flagOfByte p.enabled with
  | some c, some enabled =>
    if p.pids.length < 1 ∨ 4 < p.pids.length ∨ usablePid p.cuePid = false ∨ p.pids.all usablePid = false then
      s.refuse .range
    else if (s.channel c).state.holdsClip then s.refuse .state
    else if enabled ∧ s.channelConflict c p.cuePid p.pids then s.refuse .conflict
    else
      let s :=
        if enabled then s.enableChannel c p.cuePid p.pids
        else s.modifyChannel c fun ch => { (ch.emptyList).configure false p.cuePid p.pids with state := .disabled }
      s.done ((s.channel c).configBytes ++ (s.channel c).stateByte)
  | _, _ => s.refuse .range

/-- The channel leaves ARMED, OUT or RETURNING on the way to DISABLED, its cue counted as cancelled (R124, R114, R122,
R129). -/
def State.endChannel (s : State) (c : Fin 4) : State :=
  match (s.channel c).state with
  | .disabled => s
  | .network => s
  | .armed => (s.countCancelled c 1).disarm c false
  | .out => (s.countCancelled c 1).immediateReturn c false
  | .returning => (s.countCancelled c 1).immediateReturn c false

/-- CHANNEL_DISABLE (R124). On a channel already DISABLED nothing changes: a last released primary PTS that CHANNEL_SET with
enabled no left there stays, though the rule also says that it becomes absent (DEDUCED, log entry 23). -/
def State.doChannelDisable (s : State) (channel : Nat) : Result :=
  match channelNumber channel with
  | none => s.refuse .range
  | some c =>
    let before := s.channel c
    let s :=
      if before.state = .disabled then s
      else (s.endChannel c).modifyChannel c fun ch => { ch.emptyList with state := .disabled, lastPts := none }
    s.done (before.stateByte ++ toBytes 1 before.list.length)

/-- CHANNEL_READ (R125): choice 0 a channel number, 1 MATCH_TABLE. -/
def State.doChannelRead (s : State) (choice channel : Nat) : Result :=
  match choice with
  | 0 =>
    match channelNumber channel with
    | none => s.refuse .range
    | some c => s.done (s.channelBytes c)
  | 1 => s.done s.sc.matchTableBytes
  | _ => s.refuse .range

/-- CUE_MATCH_WRITE (R126). -/
def State.doCueMatchWrite (s : State) (p : CueMatchParams) : Result :=
  match flagOfByte p.enabled with
  | none => s.refuse .range
  | some enabled =>
    if h : p.index < 8 then
      if 255 < p.avail ∨ 15 < p.mask ∨ p.clip < 1 ∨ 65535 < p.clip then s.refuse .range
      else
        let e : CueMatch := { enabled, avail := p.avail, mask := BitVec.ofNat 4 p.mask, clip := some p.clip }
        State.done { s with sc := { s.sc with cueMatches := setAt s.sc.cueMatches ⟨p.index, h⟩ e } } (matchBytes e)
    else s.refuse .range

/-- CUE_POST (R127). -/
def State.doCuePost (s : State) (p : CuePostParams) : Result :=
  match channelNumber p.channel, cueKindOf p.kind with
  | some c, some kind =>
    if p.time.any (fun t => 8589934592 ≤ t) ∨ p.duration.any (fun d => d < 1 || 4294967295 < d) ∨ 255 < p.avail then
      s.refuse .range
    else if (s.channel c).state = .disabled then s.refuse .state
    else
      let r := s.takeCue c
        { event := p.event, kind, time := p.time.map (BitVec.ofNat 33), duration := p.duration, avail := p.avail }
      r.1.done (toBytes 1 (r.2.1.numberFor kind) ++ (if kind = .out then presence (toBytes 2) r.2.2 else [])
        ++ (r.1.channel c).stateByte)
  | _, _ => s.refuse .range

/-- CUE_CANCEL (R128): choice 0 an event id, 1 ALL. -/
def State.doCueCancel (s : State) (p : CueCancelParams) : Result :=
  match channelNumber p.channel with
  | none => s.refuse .range
  | some c =>
    if 1 < p.choice then s.refuse .range
    else if (s.channel c).state = .disabled then s.refuse .state
    else if p.choice = 0 then
      match s.cancelEvent c p.event with
      | (_, .ignored) => s.refuse .notFound
      | (t, d) => t.done (toBytes 1 d.number)
    else
      let n := (s.channel c).list.length
      (s.modifyChannel c Channel.emptyList).done (toBytes 1 n)

/-! ### Chapter 7 -/

/-- CLIP_LOAD_BEGIN's values are in their ranges (R134, check 2). -/
def loadInRange (p : LoadBeginParams) : Bool :=
  1 ≤ p.clip && p.clip ≤ 65535 && 1 ≤ p.count && p.count ≤ 262144 && 1 ≤ p.duration && p.duration ≤ 4294967295
    && 1 ≤ p.pids.length && p.pids.length ≤ 4 && p.pids.all (· ≤ 8191) && decide p.pids.Nodup

/-- CLIP_LOAD_BEGIN (R134). -/
def State.doClipLoadBegin (s : State) (p : LoadBeginParams) : Result :=
  if s.cm.load.state ≠ .closed then s.refuse .busy
  else if loadInRange p = false then s.refuse .range
  else
    match s.cm.lowestFree with
    | none => s.refuse .noSpace
    | some i =>
      if (s.cm.find p.clip).isSome then s.refuse .conflict
      else if s.cm.freeList.length * pagePackets < p.count then s.refuse .noSpace
      else
        let r : ClipRecord :=
          { state := .loading, id := p.clip, use := 0, pages := [], count := 0, declared := p.count
            components := p.pids.length, firstPts := Vector.replicate 4 none, duration := p.duration, crc := p.crc }
        let m := { s.cm with
                   directory := setAt s.cm.directory i r
                   load := { LoadContext.closed with state := .opened, record := i, map := p.pids }
                   counters := { s.cm.counters with loadsBegun := count s.cm.counters.loadsBegun } }
        State.done { s with cm := m } (toBytes 1 i.val ++ toBytes 2 m.freeList.length)

/-- The load is complete: READY, CLIP_LOADED raised, counted, outcome LOADED, context CLOSED, and the READY report (R138,
R132). -/
def State.completeLoad (s : State) : State :=
  let i := s.cm.load.record
  let m := s.cm.modifyRecord i fun r => { r with state := .ready }
  let m := { m with
             load := .closed
             lastOutcome := some (.loaded, (s.cm.record i).id)
             counters := { m.counters with clipsLoaded := count m.counters.clipsLoaded } }
  (State.raise { s with cm := m } .clipLoaded).clipReady

/-- The reason for which the open load fails its verification, if it does (R137). -/
def ClipController.verify (m : ClipController) : Option LoadOutcome :=
  let r := m.record m.load.record
  if r.count ≠ r.declared ∨ m.load.excess then some .count
  else if m.load.crc ≠ r.crc then some .crc
  else if getAt r.firstPts 0 = none then some .noTimestamp
  else none

/-- The load is verified: it drains (R137). -/
def State.drainLoad (s : State) : State := { s with cm := { s.cm with load := { s.cm.load with state := .draining } } }

/-- A draining load whose write buffer is empty is complete (R138). -/
def State.loadDrained (s : State) : State :=
  if s.cm.load.state = .draining ∧ s.cm.load.buffer = [] then s.completeLoad else s

/-- CLIP_LOAD_END up to its reply (R137; State.execute completes a load that drains with an empty buffer): the outcome is VERIFIED (0) or FAILED (1) with its reason (COUNT 0, CRC 1, NO_TIMESTAMP 2). The reason's
byte stands in the reply in either case, and is 0 with VERIFIED (DESIGN CHOICE, log entry 18). -/
def State.doClipLoadEnd (s : State) (clip : Nat) : Result :=
  let r := s.cm.record s.cm.load.record
  if s.cm.load.state = .closed then s.refuse .state
  else if r.id ≠ clip then s.refuse .notFound
  else if s.cm.load.state = .draining then s.refuse .state
  else
    match s.cm.verify with
    | some reason =>
      let t := s.failLoad reason
      t.done (toBytes 1 1 ++ toBytes 1 (reason.number - 1) ++ toBytes 4 r.count ++ toBytes 1 t.cm.load.buffer.length)
    | none =>
      s.drainLoad.done (toBytes 1 0 ++ toBytes 1 0 ++ toBytes 4 r.count ++ toBytes 1 s.cm.load.buffer.length)

/-- CLIP_LOAD_ABANDON (R140). -/
def State.doClipLoadAbandon (s : State) : Result :=
  if s.cm.load.state = .closed then s.refuse .state
  else
    let r := s.cm.record s.cm.load.record
    (s.failLoad .abandoned).done (toBytes 2 r.id ++ toBytes 4 r.count)

/-- CLIP_DELETE (R141): the state left is FREE (0) or DELETE_PENDING (1). -/
def State.doClipDelete (s : State) (clip : Nat) : Result :=
  if clip < 1 ∨ 65535 < clip then s.refuse .range
  else
    match s.cm.find clip with
    | none => s.refuse .notFound
    | some i =>
      let r := s.cm.record i
      if r.state ≠ .ready then s.refuse .state
      else
        let t := s.countClip fun k => { k with deletes := count k.deletes }
        if r.use = 0 then State.done { t with cm := t.cm.giveBack i } (toBytes 1 0 ++ toBytes 1 0)
        else
          State.done { t with cm := t.cm.modifyRecord i fun r => { r with state := .deletePending } }
            (toBytes 1 1 ++ toBytes 1 r.use)

/-- CLIP_DIRECTORY_READ (R146): choice 0 a clip id, 1 ALL. -/
def State.doClipDirectoryRead (s : State) (choice clip : Nat) : Result :=
  match choice with
  | 0 =>
    if clip < 1 ∨ 65535 < clip then s.refuse .range
    else
      match s.cm.find clip with
      | none => s.refuse .notFound
      | some i => s.done (clipBytes i.val (s.cm.record i))
  | 1 => s.done s.cm.allBytes
  | _ => s.refuse .range

/-! ### Chapter 9 -/

def gateOfByte (n : Nat) : Option Gate :=
  match n with
  | 0 => some .run
  | 1 => some .hold
  | 2 => some .stop
  | _ => none

/-- GATE_REQUEST (R172). -/
def State.doGateRequest (s : State) (value : Nat) : Result :=
  match gateOfByte value with
  | none => s.refuse .range
  | some g =>
    let s := if s.su.mgmt = g then s else State.regate { s with su := { s.su with mgmt := g } }
    s.done (toBytes 1 s.su.mgmt.number ++ s.su.gateBytes)

def diagActionOfByte (n : Nat) : Option DiagAction :=
  match n with
  | 0 => some .continue
  | 1 => some .hold
  | 2 => some .stop
  | _ => none

/-- DIAG_ACTION_WRITE (R173). -/
def State.doDiagActionWrite (s : State) (condition action : Nat) : Result :=
  match diagActionOfByte action with
  | none => s.refuse .range
  | some a =>
    if h : condition < 9 then
      let i : Fin 9 := ⟨condition, h⟩
      let s := State.regate
        { s with
          su := { s.su with
                  actions := setAt s.su.actions i a
                  factors := setAt s.su.factors i (factorOf (getAt s.su.conditions i) a) } }
      s.done s.su.actionBytes
    else s.refuse .range

/-- SCAN_SET (R174). -/
def State.doScanSet (s : State) (setting : Nat) : Result :=
  if 65535 < setting then s.refuse .range
  else
    let s := { s with su := { s.su with scanSetting := setting } }
    s.done s.su.scanBytes

/-- EVENT_READ_CLEAR (R175). -/
def State.doEventReadClear (s : State) (flags : Nat) : Result :=
  if 67108864 ≤ flags then s.refuse .range
  else
    let u := { s.su with flags := s.su.flags &&& ~~~(BitVec.ofNat 26 flags) }
    State.done { s with su := u.driveAlarm } (flagSetBytes s.su.flags)

/-- The masks a list of values gives, the first at bit 0: 1 is unmasked. -/
def maskOf (ms : List Nat) : Nat := ms.foldr (fun b n => b + 2 * n) 0

/-- EVENT_MASK_WRITE (R176). -/
def State.doEventMaskWrite (s : State) (masks : List Nat) : Result :=
  if masks.length ≠ 26 ∨ masks.all (· ≤ 1) = false then s.refuse .range
  else
    let u := Supervision.driveAlarm { s.su with unmasked := BitVec.ofNat 26 (maskOf masks) }
    State.done { s with su := u } (u.maskBytes ++ flagSetBytes u.flags)

/-! ### Chapter 10 -/

/-- SNAPSHOT_TAKE (R178, R179). -/
def State.doSnapshotTake (s : State) : Result :=
  let r := s.picture .command
  State.done { s with su := { s.su with snapshot := .held r } } (snapshotBytes r)

/-- SNAPSHOT_READ (R179): the record, then the state it held before (EMPTY 0, HELD 1, READ 2). -/
def State.doSnapshotRead (s : State) : Result :=
  match s.su.snapshot with
  | .empty => s.refuse .notFound
  | .held r => State.done { s with su := { s.su with snapshot := .read r } } (snapshotBytes r ++ toBytes 1 1)
  | .read r => s.done (snapshotBytes r ++ toBytes 1 2)

/-- The start TRACE_CONFIGURE carries: IMMEDIATE, or ON_FLAG with a flag in 0..25 (R180). -/
def startOf (start flag : Nat) : Option (Option EventFlag) :=
  match start with
  | 0 => some none
  | 1 => (flagOfNumber flag).map some
  | _ => none

/-- The configuration TRACE_CONFIGURE carries, none where a value is out of its range (R180, check 1). -/
def traceConfigOf (p : TraceParams) : Option TraceConfig :=
  if p.quantities.length < 1 ∨ 4 < p.quantities.length ∨ 7 < p.divider ∨ 1 < p.mode then none
  else
    match p.quantities.mapM quantityOfNumber, startOf p.start p.flag with
    | some qs, some onFlag => some { quantities := qs, divider := p.divider, oneShot := p.mode == 1, onFlag }
    | _, _ => none

/-- The trace is WAITING or TRACE_RUNNING. -/
def TraceState.busy : TraceState → Bool
  | .stopped => false
  | .waiting => true
  | .running => true
  | .filled => false

def State.setTrace (s : State) (t : Trace) : State := { s with su := { s.su with trace := t } }

/-- TRACE_CONFIGURE (R180). -/
def State.doTraceConfigure (s : State) (p : TraceParams) : Result :=
  match traceConfigOf p with
  | none => s.refuse .range
  | some c =>
    if s.su.trace.state.busy then s.refuse .state
    else
      State.done (s.setTrace { s.su.trace with config := some c, state := .stopped, samples := [], samplesTaken := 0#32 })
        (traceConfigBytes c)

/-- The trace as TRACE_START leaves it (R181). -/
def Trace.start (t : Trace) (c : TraceConfig) : Trace :=
  match c.onFlag with
  | none =>
    { t with state := .running, samples := [], samplesTaken := 0#32, dividerCount := 0, nullSlots := 0, gapPositions := 0 }
  | some _ => { t with state := .waiting, samples := [], samplesTaken := 0#32 }

/-- TRACE_START (R181). -/
def State.doTraceStart (s : State) : Result :=
  match s.su.trace.config with
  | none => s.refuse .state
  | some c =>
    if s.su.trace.state.busy then s.refuse .state
    else
      let t := s.su.trace.start c
      State.done
        { s with
          su := { s.su with
                  trace := t, counters := { s.su.counters with traceStarts := count s.su.counters.traceStarts } } }
        (toBytes 1 t.state.number)

/-- TRACE_STOP (R181). -/
def State.doTraceStop (s : State) : Result :=
  let t := s.su.trace
  (if t.state.busy then s.setTrace { t with state := .stopped } else s).done
    (toBytes 1 t.state.number ++ toBytes 2 t.samples.length)

/-- TRACE_READ (R183). -/
def State.doTraceRead (s : State) (first n : Nat) : Result :=
  let held := s.su.trace.samples.length
  if n < 1 ∨ 512 < n ∨ (0 < held ∧ held ≤ first) ∨ (held = 0 ∧ first ≠ 0) then s.refuse .range
  else s.done (s.su.trace.readBytes first n)

/-- The blocks a selection names: one of the ten, or ALL (R184). -/
def blocksOf (selection : Nat) : Option (List Block) :=
  if selection = 10 then some allBlocks else (allBlocks[selection]?).map fun b => [b]

/-- COUNTERS_READ (R184). -/
def State.doCountersRead (s : State) (selection clear : Nat) : Result :=
  match blocksOf selection, flagOfByte clear with
  | some bs, some c => (if c then bs.foldl State.clearBlock s else s).done (bs.flatMap s.blockBytes)
  | _, _ => s.refuse .range

/-! ### Chapter 11 -/

/-- STATUS_READ (R193). -/
def State.doStatusRead (s : State) : Result := s.done s.statusBytes

/-- ADDRESS_WRITE (R194). -/
def State.doAddressWrite (s : State) (group0 group1 : Nat) : Result :=
  if 65534 < group0 ∨ 65534 < group1 then s.refuse .range
  else
    let m := { s.mu with group0, group1 }
    State.done { s with mu := m } m.addressBytes

/-- AUTHORITY_WRITE (R195). -/
def State.doAuthorityWrite (s : State) (mask : Nat) : Result :=
  if 63 < mask then s.refuse .range
  else
    let m := { s.mu with authority := BitVec.ofNat 6 mask }
    State.done { s with mu := m } m.maskBytes

/-! ### Execution (R188 to R190, R196) -/

/-- The command executed by its owner; RESTART's own work is `Management.restart` (R189). -/
def State.run (s : State) : Command → Result
  | .modeSet m => s.doModeSet m
  | .feedPolicySet p => s.doFeedPolicySet p
  | .rateSet r t => s.doRateSet r t
  | .offsetSet o t => s.doOffsetSet o t
  | .delaySet d => s.doDelaySet d
  | .timeSet sec => s.doTimeSet sec
  | .holdoverSet l => s.doHoldoverSet l
  | .streamWrite p => s.doStreamWrite p
  | .streamErase p => s.doStreamErase p
  | .streamRead c p => s.doStreamRead c p
  | .defaultActionSet a => s.doDefaultActionSet a
  | .channelSet p => s.doChannelSet p
  | .channelDisable c => s.doChannelDisable c
  | .channelRead k c => s.doChannelRead k c
  | .cueMatchWrite p => s.doCueMatchWrite p
  | .cuePost p => s.doCuePost p
  | .cueCancel p => s.doCueCancel p
  | .clipLoadBegin p => s.doClipLoadBegin p
  | .clipLoadEnd c => s.doClipLoadEnd c
  | .clipLoadAbandon => s.doClipLoadAbandon
  | .clipDelete c => s.doClipDelete c
  | .clipDirectoryRead k c => s.doClipDirectoryRead k c
  | .gateRequest v => s.doGateRequest v
  | .diagActionWrite c a => s.doDiagActionWrite c a
  | .scanSet n => s.doScanSet n
  | .eventReadClear fs => s.doEventReadClear fs
  | .eventMaskWrite ms => s.doEventMaskWrite ms
  | .snapshotTake => s.doSnapshotTake
  | .snapshotRead => s.doSnapshotRead
  | .traceConfigure p => s.doTraceConfigure p
  | .traceStart => s.doTraceStart
  | .traceStop => s.doTraceStop
  | .traceRead f n => s.doTraceRead f n
  | .countersRead b c => s.doCountersRead b c
  | .statusRead => s.doStatusRead
  | .addressWrite a b => s.doAddressWrite a b
  | .authorityWrite m => s.doAuthorityWrite m
  | .restart => s.done []

/-- The reply to a result is formed and offered (R190). -/
def Result.answer (r : Result) (tag code : Byte) : State := r.state.reply tag code r.status r.data

/-- A queued packet is dropped and counted by its kind (R191). -/
def ManagementCounters.countDrop (k : ManagementCounters) (p : MonitorPacket) : ManagementCounters :=
  match p.kind with
  | .reply => { k with replyPartsDropped := count k.replyPartsDropped }
  | .notice => { k with noticesDropped := count k.noticesDropped }

/-- RESTART (R196): the reply is formed; every queued packet but the one port M is sending, the head, is dropped and
counted; the reply is queued; the restart-pending mark is set. -/
def Management.restart (m : Management) (tag code : Byte) : Management :=
  let m := { m with
             queue := m.queue.take 1
             counters := (m.queue.drop 1).foldl ManagementCounters.countDrop m.counters }
  { m.reply tag code .done [] with restartPending := true }

/-- The commands-accepted counter of the source (R187). -/
def ManagementCounters.accept (k : ManagementCounters) (source : Source) : ManagementCounters :=
  match source with
  | .feed => { k with acceptedFeeds := count k.acceptedFeeds }
  | .portL => { k with acceptedPortL := count k.acceptedPortL }

/-- The Management Unit's counters changed by `f`. -/
def State.countManagement (s : State) (f : ManagementCounters → ManagementCounters) : State :=
  { s with mu := { s.mu with counters := f s.mu.counters } }

/-- The class may come from a source: any class from port L, a class of the authority mask from a feed (R188, R195). -/
def Management.allows (m : Management) (source : Source) (c : AuthorityClass) : Bool :=
  match source with
  | .portL => true
  | .feed =>
    match c.bit? with
    | none => false
    | some b => m.authority.getLsbD b

/-- The command runs and is answered; RESTART is answered as R196 lays down (R189, R190). The reply is formed, and counted,
after the command has run, so that it stands in the counter a COUNTERS_READ with clear leaves (DESIGN CHOICE, log entry
34). A load that CLIP_LOAD_END has just verified with an empty write buffer is complete at once after the reply is queued (R138;
log entry 37). -/
def State.execute (s : State) (tag : Byte) (c : Command) : State :=
  match c with
  | .restart => { s with mu := s.mu.restart tag (codeOf .restart) }
  | .clipLoadEnd clip =>
    let t := (s.run (.clipLoadEnd clip)).answer tag (codeOf (.clipLoadEnd clip))
    if s.cm.load.state = .opened then t.loadDrained else t
  | c => (s.run c).answer tag (codeOf c)

/-- An accepted packet: discarded while a restart is pending (R196), else counted (R187) and decoded: UNKNOWN, AUTHORITY,
RANGE for parameters too few, or execution (R188). -/
def State.accepted (s : State) (h : Header) (code : Byte) (command : Option Command) : State :=
  if s.mu.restartPending then s
  else
    let s := s.countManagement fun k => k.accept h.source
    match classOfCode code with
    | none =>
      ((s.countManagement fun k => { k with unknownCommands := count k.unknownCommands }).raise .mgmtRefused).reply h.tag
        code .unknown []
    | some c =>
      if s.mu.allows h.source c then
        match command with
        | none => s.reply h.tag code .range []
        | some command => s.execute h.tag command
      else
        ((s.countManagement fun k => { k with authorityRefusals := count k.authorityRefusals }).raise .mgmtRefused).reply
          h.tag code .authority []

/-- A management command as the table's row carries it: a packet that has passed R187 (form, CRC, address). -/
def State.manage (s : State) (h : Header) (c : Command) : State := s.accepted h (codeOf c) (some c)

/-! ### Acceptance of a packet (R187) -/

/-- The packet passes the test of form and CRC (R187, test 1). -/
def commandForm (p : Packet) : Bool :=
  let pay := payloadOf p
  let n := (byteAt pay 4).toNat
  !transportError p && payloadPresent p && scrambling p == 0 && n ≤ 170 && 9 + n ≤ pay.length
    && fieldAt pay (5 + n) 4 == (crc32 (pay.take (5 + n))).toNat

/-- The destination address is one of this unit's (R187, test 2). -/
def Management.addressed (m : Management) (a : Nat) : Bool :=
  (m.unitAddress != 0#12 && a == m.unitAddress.toNat) || (m.group0 != 0 && a == m.group0) || (m.group1 != 0 && a == m.group1)
    || a == 65535

/-- A packet on PID 8180 handed to the Management Unit (R187, R188). -/
def State.managementPacket (s : State) (source : Source) (p : Packet) : State :=
  if s.mu.restartPending then s
  else if !commandForm p then s.countManagement fun k => { k with crcFailures := count k.crcFailures }
  else
    let pay := payloadOf p
    if !s.mu.addressed (fieldAt pay 0 2) then
      s.countManagement fun k => { k with addressMismatches := count k.addressMismatches }
    else
      let code := byteAt pay 2
      s.accepted ⟨source, byteAt pay 3⟩ code (decodeParams code ((pay.drop 5).take (byteAt pay 4).toNat))

end Sys2Proof.Machine
end

