-- ==== Sys2Proof/Machine/Release.lean ====
section
/-! DEFINITION. The release of one packet (2.6), the group start (2.2), the departure slot in SFN and MFN mode (2.3, 2.5,
3.3), overlap and the end of a release. -/

namespace Sys2Proof.Machine

/-! ### The stages of releasing one packet (R41 to R44) -/

/-- Stages 2 to 5 of a packet that stage 1 lets continue (R43). -/
def State.streamStages (s : State) (slotStart arrival : SiteTime) (p : Packet) : State × Packet :=
  match s.stage2 p with
  | (s, .null) => (s, nullPacket)
  | (s, .noEntry) =>
    match s.stage3 p with
    | (s, .null) => (s, nullPacket)
    | (s, .packet q) => (s, q)
  | (s, .entry pid) =>
    match s.stage3 p with
    | (s, .null) => (s, nullPacket)
    | (s, .packet q) =>
      let r := s.stage4 pid q
      r.1.stage5 pid slotStart arrival r.2

/-- Stages 1 to 5: what reaches the gate (R42, R43). -/
def State.stages (s : State) (slotStart arrival : SiteTime) (p : Packet) : State × Packet :=
  if pidOf p = pidCadence then (s, nullPacket)
  else if pidOf p = pidManagement then (s.managementPacket .feed p, nullPacket)
  else if pidOf p = pidMonitor then (s, nullPacket)
  else if pidOf p = pidNull then (s, p)
  else (s.readCues p).streamStages slotStart arrival p

/-- A packet begins at port T; a null packet is tallied (R44, R182) where the trace runs as the packet begins: so in the very slot whose
stage 1 has executed a TRACE_START, and not in that of a TRACE_STOP (DESIGN CHOICE, log entry 45). -/
def State.beginAtPortT (s : State) (p : Packet) : State :=
  let s := if pidOf p = pidNull then s.tallyNull else s
  { s with lines := { s.lines with portT := some p } }

/-- Stage 6, the gate (R44). -/
def State.stage6 (s : State) (p : Packet) : State :=
  match s.su.effective with
  | .running => s.beginAtPortT p
  | .holding => s.beginAtPortT nullPacket
  | .starting => { s with lines := { s.lines with portT := none } }
  | .stopped => { s with lines := { s.lines with portT := none } }

/-- The release of one packet from a slot of feed `f`: taken into release, the six stages, the slot freed (R10, R41, R44). -/
def State.releaseSlot (s : State) (f : Feed) (slotStart : SiteTime) (x : Slot) : State :=
  let r := (s.takeSlot f fun y => y.index == x.index).stages slotStart x.arrival x.packet
  (r.1.stage6 r.2).freeSlot f x.index

/-! ### The position of a group (R31, R32) -/

/-- The HELD slot of feed `f` that carries position `k` of group `n` (R32). -/
def State.holder (s : State) (f : Feed) (n : Cadence) (k : Nat) : Option Slot :=
  (s.ring f).slots.find? fun x => x.isHeld && x.group == some n && x.position == some k

/-- The twin of the record of `n` in feed `f` that may supply its positions: of the same declared length and not EARLY
(R32). -/
def State.supplyingTwin (s : State) (f : Feed) (n : Cadence) (length : Nat) : Bool :=
  match s.record? f.other n with
  | none => false
  | some t => t.length == length && t.verdict != .early

/-- Position `k` of group `n`, released from `f`, goes through the stages from the first source that holds it: the chosen
record, the twin, or a null packet for a gap (R32). -/
def State.releaseFrom (s : State) (f : Feed) (n : Cadence) (length k : Nat) (slotStart : SiteTime) : State :=
  match s.holder f n k with
  | some x => s.releaseSlot f slotStart x
  | none =>
    match if s.supplyingTwin f n length then s.holder f.other n k else none with
    | some x =>
      (s.countRelease fun c => { c with twinPositions := count c.twinPositions }).releaseSlot f.other slotStart x
    | none => ((s.countRelease fun c => { c with gapPositions := count c.gapPositions }).tallyGap).stage6 nullPacket

/-- The record of `n` in `f` is DONE and leaves its table, and its twin is DISCARDED (R33, R17). -/
def State.doneGroup (s : State) (f : Feed) (n : Cadence) : State :=
  let s := (s.dropRecord f n).dropRecord f.other n
  { s with re := { s.re with releasing := none } }

/-- A release ends between group starts: no further slot, the candidate determined again, and the gate brought into line
while no slot will come (R33, R57, R164, R26). -/
def State.endRelease (s : State) (f : Feed) (n : Cadence) : State :=
  let due := s.dueCandidate
  let s := s.doneGroup f n
  ({ s with dt := { s.dt with nextSlot := none } }.recandidate due).alignGate

/-- The release of group `n` ends by overlap: its remaining positions are dropped and counted, GROUP_OVERLAP raised, the
record DONE and its twin DISCARDED (R34). -/
def State.overlap (s : State) (f : Feed) (n : Cadence) : State :=
  let left := ((s.record? f n).map fun r => r.length - r.nextPosition).getD 0
  ((s.countRelease fun c => { c with overlapPositions := countBy c.overlapPositions left }).raise .groupOverlap).doneGroup f n

/-- The group being released ends by overlap, if there is one (R27, R34). -/
def State.overlapReleasing (s : State) : State :=
  match s.re.releasing with
  | none => s
  | some g => s.overlap g.feed g.number

/-- The release of the next position of the group being released, and the end of the release with its last (R31, R33). A
command of the position may have abandoned the group (R45). -/
def State.releasePosition (s : State) (slotStart : SiteTime) : State :=
  match s.re.releasing with
  | none => s
  | some g =>
    match s.record? g.feed g.number with
    | none => s
    | some r =>
      let k := r.nextPosition
      let s := s.releaseFrom g.feed g.number r.length k slotStart
      if s.re.releasing = some g then
        let s := s.modifyGroup g.feed g.number fun r => { r with nextPosition := k + 1 }
        if r.length ≤ k + 1 then s.endRelease g.feed g.number else s
      else s

/-- The position about to be released is the last of its group (R57). -/
def State.lastPosition (s : State) : Bool :=
  match s.re.releasing with
  | none => false
  | some g =>
    match s.record? g.feed g.number with
    | none => false
    | some r => r.length ≤ r.nextPosition + 1

/-! ### The group start (R27 to R29) -/

/-- The eligible records whose release time is not after `t`, other than those that bear number `n`: they are passed at
the group start of `n` (R29). -/
def State.passedNumbers (s : State) (f : Feed) (n : Cadence) (t : SiteTime) : List Cadence :=
  ((s.table f).filter fun r =>
    r.eligible s.re.lastStarted && r.number != n && atOrAfter t r.release && (s.re.releasing.map (·.number)) != some r.number)
    |>.map (·.number)

/-- The records passed at the start of `n`, whose release time is `t`, are DISCARDED and counted (R29). -/
def State.passOthers (s : State) (n : Cadence) (t : SiteTime) : State :=
  let s := (s.passedNumbers .a n t).foldl (fun s m => s.discardPassed .a m) s
  (s.passedNumbers .b n t).foldl (fun s m => s.discardPassed .b m) s

/-- The numbers in a table that are before `n` (R28, step 5). -/
def State.numbersBefore (s : State) (f : Feed) (n : Cadence) : List Cadence :=
  ((s.table f).filter fun r => cadenceAfter n r.number).map (·.number)

/-- The numbers strictly between the last-started number and `n` (R28, step 4). -/
def skippedBefore (lastStarted : Option Cadence) (n : Cadence) : Nat :=
  match lastStarted with
  | none => 0
  | some m => (n - m - 1).toNat

/-- The bookkeeping of the start of group `n` from feed `f`: fallback counted, the record RELEASING, skipped numbers counted
with CADENCE_MISSING, older records DISCARDED, the last-started number and the time recorded (R28, steps 2 to 6). -/
def State.openRelease (s : State) (f : Feed) (n : Cadence) : State :=
  let skipped := skippedBefore s.re.lastStarted n
  let s := s.countRelease fun c =>
    { c with
      groupsStarted := count c.groupsStarted
      perGroupFallbacks := countIf (f != s.re.selected) c.perGroupFallbacks
      skippedNumbers := countBy c.skippedNumbers skipped }
  let s := s.modifyGroup f n fun r => { r with state := .releasing, nextPosition := 0 }
  let s := s.raiseIf (skipped != 0) .cadenceMissing
  let s := s.dropRecords .a (s.numbersBefore .a n)
  let s := s.dropRecords .b (s.numbersBefore .b n)
  { s with
    re := { s.re with lastStarted := some n, lastGroupStart := some s.tu.time, releasing := some ⟨f, n⟩ } }

/-- The first slot of a group just started: the pacer anchored with the changes due, the gate at the anchor, the next slot
computed, position 0 released (R53, R56, R62, R163). -/
def State.firstSlot (s : State) (n : Cadence) : State :=
  let start := s.tu.time
  let s := { s with dt := (s.dt.startGroup n start).countSlot }
  let s := s.gateAtSlot true
  { s with dt := s.dt.computeNext start }.releasePosition start

/-- The group start of the candidate `n`, whose release time is `t` (R27, R28): other records reached are passed, a release
in progress ends by overlap, a late start is counted, the selection is applied, the copy chosen and its first slot
begun. Slot 0 is used even where the next candidate is late at the same instant; that one's start then ends this release by overlap
(R34, R56, R57; DESIGN CHOICE, log entry 43). -/
def State.startGroup (s : State) (n : Cadence) (t : SiteTime) : State :=
  let s := (s.passOthers n t).overlapReleasing
  let s := s.countRelease fun c => { c with lateStarts := countIf (isAfter s.tu.time t) c.lateStarts }
  let s := s.applySelection.1
  match s.chosenCopy n with
  | none => s
  | some (f, _) =>
    let s := ((s.openRelease f n).recandidate none).firstSlot n
    s.recandidate s.dueCandidate

/-- The group start, where one is due (R27). -/
def State.groupStart (s : State) : State :=
  if s.groupStartDue then
    match s.re.candidate, s.candidateTime with
    | some n, some t => s.startGroup n t
    | _, _ => s
  else s

/-- Every start that a step of site time, or the appearing of a candidate, has made late takes place at once, one after
another (R27). `fuel` bounds their number: at most 128 records stand in the tables. -/
def State.lateStarts : Nat → State → State
  | 0, s => s
  | fuel + 1, s => if s.lateStartDue then lateStarts fuel s.groupStart else s

/-- The late starts that are due, taken after the event or command that made them late (R27, R68; log entries 39, 40 and 43). -/
def State.settle (s : State) : State := State.lateStarts 128 s

/-- A candidate has appeared where there was none, with a release time before the next slot of the group being released:
that release ends at once by overlap (R34). -/
def State.overlapByAppearing (s : State) (before : Option Cadence) : State :=
  match before, s.re.releasing, s.dt.nextSlot, s.candidateTime with
  | none, some g, some slot, some t =>
    if isBefore t slot then
      let due := s.dueCandidate
      let s := s.overlap g.feed g.number
      ({ s with dt := { s.dt with nextSlot := none } }.recandidate due).alignGate
    else s
  | _, _, _, _ => s

/-! ### MFN release (R38 to R40) -/

/-- The read index of a ring set (R39). -/
def State.setReadIndex (s : State) (f : Feed) (i : Nat) : State :=
  { s with re := { s.re with readIndex := s.re.readIndex.set f i } }

/-- The head of the newly selected ring: its older HELD slots discarded, the read index at the oldest HELD slot that is not
earlier than the last released arrival minus Dn, or at the write index where there is none (R40). The oldest is the one taken into
the ring first (DEDUCED, log entry 48). -/
def State.chooseHead (s : State) : State :=
  let f := s.re.selected
  let old (x : Slot) : Bool :=
    match s.re.lastReleasedArrival with
    | none => false
    | some t => isBefore x.arrival (addTicks t (-(s.dt.nominalDelay : Int)))
  let head := (s.ring f).slots.find? fun x => x.isHeld && !old x
  let s := s.discardSlots f old
  s.setReadIndex f ((head.map (·.index)).getD (s.ring f).writeIndex)

/-- A pending changeover or revert applied at the start of an MFN slot (R40). -/
def State.mfnSelection (s : State) : State :=
  match s.applySelection with
  | (s, true) => s.chooseHead
  | (s, false) => s

/-- The head of the selected ring, the HELD slot at the read index, where it is due in a slot that begins at `slotStart` (R38). Where
the slot at the read index is EMPTY though the ring holds packets in other slots, there is no head (DESIGN CHOICE, log entry 47). -/
def State.dueHead (s : State) (slotStart : SiteTime) : Option Slot :=
  ((s.ring s.re.selected).slots.find? fun x => x.isHeld && x.index == s.re.readIndex.get s.re.selected).bind fun x =>
    if atOrAfter slotStart (addTicks x.arrival s.dt.nominalDelay) then some x else none

/-- An MFN slot is filled: the due head released, or a null packet, the slot counted as idle (R38). So too where the slot at the read
index is EMPTY while the ring still holds HELD packets, a case R38 does not speak of: the read index stands, and no slot is passed
over (DESIGN CHOICE, log entry 47). -/
def State.mfnFill (s : State) (slotStart : SiteTime) : State :=
  match s.dueHead slotStart with
  | some x =>
    let f := s.re.selected
    let s := s.setReadIndex f (nextIndex (s.re.readIndex.get f))
    State.releaseSlot { s with re := { s.re with lastReleasedArrival := some x.arrival } } f slotStart x
  | none => (s.countRelease fun c => { c with mfnIdleSlots := count c.mfnIdleSlots }).stage6 nullPacket

/-! ### The departure slot (R53, R54) -/

/-- A slot is due: the next slot time is reached, and no group start takes place at the same instant (R54, R57). -/
def State.slotDue (s : State) : Bool :=
  !s.groupStartDue &&
    match s.dt.nextSlot with
    | none => false
    | some t => atOrAfter s.tu.time t

/-- A slot of the group being released, in SFN mode. The next slot time is computed as the slot begins; with the last
position no further slot is computed (R53, R57). -/
def State.sfnSlot (s : State) (slotStart : SiteTime) : State :=
  if s.re.releasing.isNone then s
  else
    let s := State.gateAtSlot { s with dt := s.dt.countSlot } false
    let s := if s.lastPosition then s else { s with dt := s.dt.computeNext slotStart }
    s.releasePosition slotStart

/-- A slot in MFN mode: changeover or revert applied, a rate newly set anchored here, the gate, the packet (R38, R40,
R58). -/
def State.mfnSlot (s : State) (slotStart : SiteTime) : State :=
  let s := s.mfnSelection
  let d := if s.dt.reanchor then s.dt.anchor slotStart else s.dt
  let s := State.gateAtSlot { s with dt := d.countSlot } true
  { s with dt := s.dt.computeNext slotStart }.mfnFill slotStart

/-- The departure slot that is due, with the late starts that a command released in it has made (R53, R27). Its start is
the site time at which it begins, which is after the held slot time where that fell among skipped tick values (R54). The slot
is completed before those starts (DESIGN CHOICE, log entry 40). -/
def State.departureSlot (s : State) : State :=
  if s.slotDue then
    match s.re.mode with
    | .sfn => (s.sfnSlot s.tu.time).settle
    | .mfn => s.mfnSlot s.tu.time
  else s

end Sys2Proof.Machine
end

