-- ==== Sys2Proof/Machine/Intake.lean ====
section
/-! DEFINITION. Feed Intake (chapter 1): the framers and their timers, cadence packets and group records, the filling of
groups, intake in MFN mode, and the routing of port L packets with the packets of a load (7.3). -/

namespace Sys2Proof.Machine

/-! ### Framers (R1 to R6) -/

/-- The bridging interval a setting gives, in ticks (R3). -/
def bridgingInterval (setting : Nat) : Nat :=
  (if setting = 0 then 200 else if setting ≤ 200 then setting * 10 else 2000) * ticksPerMs

/-- The timer a framer starts now (R2, R5). -/
def Framer.startTimer (x : Framer) (now : SiteTime) : Framer :=
  { x with timer := some { start := now, interval := bridgingInterval x.bridgingSetting } }

/-- The timer has run its interval of site time (R3, R4, R5). -/
def Timer.reached (t : Timer) (now : SiteTime) : Bool := (t.interval : Int) ≤ siteDiff now t.start

/-- The flag a port's lock raises; port L has none (R6). -/
def lockedFlag : Port → Option EventFlag
  | .a => some .feedALocked
  | .b => some .feedBLocked
  | .l => none

/-- The flag a port's loss raises (R4). -/
def lostFlag : Port → EventFlag
  | .a => .feedALost
  | .b => .feedBLost
  | .l => .portLLost

def State.raiseOpt (s : State) : Option EventFlag → State
  | none => s
  | some f => s.raise f

/-- What a change of the link state of a port sets going: at A and B the Release Engine judges changeover and revert (R6,
R36, R37). -/
def State.linkMoved (s : State) (p : Port) : State :=
  match p with
  | .a => s.linkChanged
  | .b => s.linkChanged
  | .l => s

/-- Signal appears at port `p` (R1, R5). -/
def State.signalAppears (s : State) (p : Port) : State :=
  let x := s.framer p
  if x.signal then s
  else
    match x.link with
    | .absent => (s.modifyFramer p fun x => { x with signal := true, link := .searching }).linkMoved p
    | .searching => s.modifyFramer p fun x => { x with signal := true, timer := none }
    | .lost => s.modifyFramer p fun x => { x with signal := true, timer := none }
    | .locked => s.modifyFramer p fun x => { x with signal := true }
    | .bridging => s.modifyFramer p fun x => { x with signal := true }

/-- The framer leaves LOCKED for BRIDGING: its timer starts, an open load on port L fails (R2, R22). The run of bad sync bytes, which R2
counts in LOCKED, ends at 0 (DESIGN CHOICE, log entry 21). -/
def State.enterBridging (s : State) (p : Port) : State :=
  let now := s.tu.time
  let s := s.modifyFramer p fun x => ({ x with link := .bridging, badSync := 0 }).startTimer now
  match p with
  | .a => s.linkChanged
  | .b => s.linkChanged
  | .l => s.portLLeaves

/-- Signal disappears from port `p` (R2, R5). -/
def State.signalDisappears (s : State) (p : Port) : State :=
  let x := s.framer p
  let now := s.tu.time
  if x.signal then
    match x.link with
    | .locked => (s.modifyFramer p fun x => { x with signal := false }).enterBridging p
    | .searching => s.modifyFramer p fun x => ({ x with signal := false }).startTimer now
    | .lost => s.modifyFramer p fun x => ({ x with signal := false }).startTimer now
    | .absent => s.modifyFramer p fun x => { x with signal := false }
    | .bridging => s.modifyFramer p fun x => { x with signal := false }
  else s

/-- The framer enters LOCKED (R1, R4, R6). -/
def Framer.lock (x : Framer) : Framer := { x with link := .locked, signal := true, badSync := 0, timer := none }

/-- The fourth consecutive good sync byte at port `p` (R1, R4, R6). -/
def State.lockAcquired (s : State) (p : Port) : State :=
  match (s.framer p).link with
  | .searching => ((s.modifyFramer p Framer.lock).raiseOpt (lockedFlag p)).linkMoved p
  | .lost => ((s.modifyFramer p Framer.lock).raiseOpt (lockedFlag p)).linkMoved p
  | .bridging =>
    ((s.modifyFramer p Framer.lock).countIntake p fun k => { k with outages := count k.outages }).linkMoved p
  | .locked => s
  | .absent => s

/-- An expected sync byte is bad at port `p` in LOCKED; the third in a row enters BRIDGING (R2). -/
def State.syncError (s : State) (p : Port) : State :=
  if (s.framer p).link = .locked then
    let s := s.countIntake p fun k => { k with syncErrors := count k.syncErrors }
    let bad := (s.framer p).badSync + 1
    if 3 ≤ bad then s.enterBridging p else s.modifyFramer p fun x => { x with badSync := bad }
  else s

/-- The bridging timer of port `p` has expired (R4). -/
def State.bridgingDue (s : State) (p : Port) : Bool :=
  (s.framer p).link == .bridging && (s.framer p).timer.any fun t => t.reached s.tu.time

/-- The absence timer of port `p` has expired with signal still absent (R5). -/
def State.absenceDue (s : State) (p : Port) : Bool :=
  ((s.framer p).link == .searching || (s.framer p).link == .lost) && !(s.framer p).signal
    && (s.framer p).timer.any fun t => t.reached s.tu.time

/-- The bridging timer expires: LOST, counted and flagged; the absence timer starts where signal is absent (R4). -/
def State.bridgingExpires (s : State) (p : Port) : State :=
  if s.bridgingDue p then
    let now := s.tu.time
    let s := s.modifyFramer p fun x =>
      let y := { x with link := .lost, timer := none, counters := { x.counters with losses := count x.counters.losses } }
      if x.signal then y else y.startTimer now
    (s.raise (lostFlag p)).linkMoved p
  else s

/-- The absence timer expires: ABSENT, without a flag (R5). -/
def State.absenceExpires (s : State) (p : Port) : State :=
  if s.absenceDue p then (s.modifyFramer p fun x => { x with link := .absent, timer := none }).linkMoved p else s

/-! ### Cadence packets (R11 to R15, R25) -/

/-- The fields of a valid cadence packet (R11, 11.6). -/
structure CadenceFields where
  number : Cadence
  length : Nat
  stamp : SiteTime
deriving DecidableEq, Repr

/-- The fields of a cadence packet that passes validation (R11). -/
def cadenceOf (p : Packet) : Option CadenceFields :=
  let pay := payloadOf p
  let length := fieldAt pay 2 2
  let tick := fieldAt pay 8 4
  if transportError p || !payloadPresent p || pay.length < 16 || fieldAt pay 12 4 != (crc32 (pay.take 12)).toNat
      || length < 16 || 4096 < length || ticksPerSecond ≤ tick then none
  else some { number := BitVec.ofNat 16 (fieldAt pay 0 2), length, stamp := ⟨BitVec.ofNat 32 (fieldAt pay 4 4), tick⟩ }

/-- The intake counters of feed `f` changed. -/
def State.countFeed (s : State) (f : Feed) (g : IntakeCounters → IntakeCounters) : State := s.countIntake f.port g

/-- The feed's open group is closed: the positions never assigned are missing, FILLING becomes SHORT, counted (R15). -/
def State.closeGroup (s : State) (f : Feed) : State :=
  match s.fi.openGroups.get f with
  | none => s
  | some g =>
    let s := s.modifyGroup f g.number fun r =>
      { r with
        missing := r.missing + (r.length - g.next)
        state := if r.state = .filling then .short else r.state }
    (s.setOpen f none).countFeed f fun k => { k with shortGroups := count k.shortGroups }

/-- A verdict other than ON_TIME raises its flag and is counted (R25, R47). -/
def State.noteVerdict (s : State) (f : Feed) (v : Verdict) : State :=
  match v, f with
  | .onTime, _ => s
  | .late, .a => (s.countRelease fun k => { k with lateA := count k.lateA }).raise .groupLate
  | .late, .b => (s.countRelease fun k => { k with lateB := count k.lateB }).raise .groupLate
  | .early, .a => (s.countRelease fun k => { k with earlyA := count k.earlyA }).raise .groupEarly
  | .early, .b => (s.countRelease fun k => { k with earlyB := count k.earlyB }).raise .groupEarly

/-- The Release Engine has passed position `k` of group `n`: the group is being released and `k` is below the index of the
next position (R16). -/
def State.positionPassed (s : State) (n : Cadence) (k : Nat) : Bool :=
  match s.releasingPosition with
  | none => false
  | some p => p.1 == n && k < p.2

/-- A record after its packet has been stored in the slot `i` (R13, R14). -/
def GroupRecord.stored (r : GroupRecord) (i : Nat) : GroupRecord :=
  { r with received := r.received + 1, firstSlot := some (r.firstSlot.getD i) }

/-- Position `k` of group `n` arrives at feed `f`: dropped as late where the Release Engine has passed it (R16), stored, or
missing where the ring is full (R9, R14). -/
def State.takePosition (s : State) (f : Feed) (n : Cadence) (k : Nat) (packet : Packet) (arrival : SiteTime) : State :=
  if s.positionPassed n k then
    (s.countFeed f fun c => { c with latePositions := count c.latePositions }).countDropped f
  else
    let i := (s.ring f).writeIndex
    match s.storePacket f packet arrival (some n) (some k) with
    | (s, true) => s.modifyGroup f n fun r => r.stored i
    | (s, false) => s.modifyGroup f n fun r => { r with missing := r.missing + 1 }

/-- The record a valid cadence packet opens (R13, R25, R50). -/
def State.newRecord (s : State) (c : CadenceFields) (arrival : SiteTime) : GroupRecord :=
  let t := s.releaseTime c.stamp
  { number := c.number, length := c.length, received := 0, release := t, firstSlot := none, arrival, state := .filling
    verdict := verdictOf t arrival, missing := 0, nextPosition := 0 }

/-- Steps 4 and 5 of R12: the record joins its table as the feed's open group, is judged, and takes position 0. -/
def State.openGroup (s : State) (f : Feed) (c : CadenceFields) (packet : Packet) (arrival : SiteTime) : State :=
  let r := s.newRecord c arrival
  let s := s.setTable f (s.table f ++ [r])
  let s := s.noteVerdict f r.verdict
  (s.takePosition f c.number 0 packet arrival).setOpen f (some ⟨c.number, 1⟩)

/-- A valid cadence packet after its feed's open group has been closed (R12, steps 2 to 5). -/
def State.validCadence (s : State) (f : Feed) (c : CadenceFields) (packet : Packet) (arrival : SiteTime) : State :=
  if (s.record? f c.number).any fun r => r.state == .releasing then
    (s.countFeed f fun k => { k with duplicateCadences := count k.duplicateCadences }).countDropped f
  else
    let s := if (s.record? f c.number).isSome then s.dropRecord f c.number else s
    if tableRecords ≤ (s.table f).length then
      ((s.countFeed f fun k => { k with groupTableFull := count k.groupTableFull }).countDropped f).overflowSeen
    else s.openGroup f c packet arrival

/-- A packet on PID 8181 taken from feed `f` in SFN mode (R11, R12). -/
def State.cadencePacket (s : State) (f : Feed) (packet : Packet) (arrival : SiteTime) : State :=
  let due := s.dueCandidate
  let s := s.closeGroup f
  match cadenceOf packet with
  | none => (s.countFeed f fun k => { k with cadenceBad := count k.cadenceBad }).countDropped f
  | some c => (s.validCadence f c packet arrival).recandidate due

/-- The position just given was the last of the open group: COMPLETE if it was FILLING, and no open group; else the counter
has advanced (R14). -/
def State.advanceOpen (s : State) (f : Feed) (g : OpenGroup) : State :=
  match s.record? f g.number with
  | none => s.setOpen f none
  | some r =>
    if r.length ≤ g.next + 1 then
      (s.modifyGroup f g.number fun r => { r with state := if r.state = .filling then .complete else r.state }).setOpen f none
    else s.setOpen f (some { g with next := g.next + 1 })

/-- A packet not on PID 8181 taken from feed `f` in SFN mode: the next position of the open group, or an orphan (R14). -/
def State.fillGroup (s : State) (f : Feed) (packet : Packet) (arrival : SiteTime) : State :=
  match s.fi.openGroups.get f with
  | none => (s.countFeed f fun k => { k with orphans := count k.orphans }).countDropped f
  | some g => (s.takePosition f g.number g.next packet arrival).advanceOpen f g

/-! ### MFN intake (R19, R20) -/

/-- The standby ring trimmed before a packet of arrival `arrival` is stored (R20). -/
def State.trimStandby (s : State) (f : Feed) (arrival : SiteTime) : State :=
  if f = s.re.selected then s
  else s.discardSlots f fun x => (2 * s.dt.nominalDelay : Int) < siteDiff arrival x.arrival

/-- A packet of feed `f` in MFN mode (R19, R20). -/
def State.mfnIntake (s : State) (f : Feed) (packet : Packet) (arrival : SiteTime) : State :=
  ((s.trimStandby f arrival).storePacket f packet arrival none none).1

/-- A packet taken from feed `f`: accounted, then handled by the mode (R11 to R20); a candidate that has appeared may end
the release in progress or start at once (R34, R27). -/
def State.feedPacket (s : State) (f : Feed) (packet : Packet) (arrival : SiteTime) : State :=
  let s := s.account f fun a => { a with taken := a.taken + 1 }
  match s.re.mode with
  | .mfn => s.mfnIntake f packet arrival
  | .sfn =>
    let before := s.re.candidate
    let s := if pidOf packet = pidCadence then s.cadencePacket f packet arrival else s.fillGroup f packet arrival
    (s.overlapByAppearing before).settle

/-! ### Port L (R21, R135) -/

/-- The load context after a packet has been accepted at stored position `p` (R135). -/
def LoadContext.take (l : LoadContext) (p : Nat) (packet : Packet) : LoadContext :=
  { l with buffer := l.buffer ++ [⟨p, packet⟩], crc := crcOver l.crc packet }

/-- The record after a packet of component `k` has been accepted (R135). -/
def ClipRecord.take (r : ClipRecord) (k : Nat) (packet : Packet) : ClipRecord :=
  { r with
    count := r.count + 1
    firstPts := Vector.ofFn fun j : Fin 4 =>
      if j.val = k then (getAt r.firstPts j).or (readablePts packet) else getAt r.firstPts j }

/-- A new page from the head of the free list for the loading record, where its packet count calls for one (R135, R131). -/
def ClipController.takePage (m : ClipController) : ClipController :=
  if (m.record m.load.record).count % pagePackets = 0 then
    match m.freeList with
    | [] => m
    | page :: rest => { m with freeList := rest }.modifyRecord m.load.record fun r => { r with pages := r.pages ++ [page] }
  else m

/-- The packet of component `k` is accepted (R135). -/
def ClipController.accept (m : ClipController) (k : Nat) (packet : Packet) : ClipController :=
  let r := m.record m.load.record
  let tags := match r.placeOf r.count with
    | some a => m.tags.write a k
    | none => m.tags
  { m with
    tags
    load := m.load.take r.count packet
    counters := { m.counters with accepted := count m.counters.accepted } }.modifyRecord m.load.record
      fun r => r.take k packet

/-- A packet of an OPEN load, of component `k` (R135). -/
def State.loadPacket (s : State) (k : Nat) (packet : Packet) : State :=
  let r := s.cm.record s.cm.load.record
  if r.declared ≤ r.count then
    { s with
      cm := { s.cm with
              load := { s.cm.load with excess := true }
              counters := { s.cm.counters with excess := count s.cm.counters.excess } } }
  else
    let m := s.cm.takePage
    if writeBufferMax ≤ m.load.buffer.length then State.failLoad { s with cm := m } .overrun
    else { s with cm := m.accept k packet }

/-- The component a packet of port L is for, while a load is open (R21). -/
def ClipController.loadComponent (m : ClipController) (pid : Pid) : Option Nat :=
  if m.load.state = .opened then m.load.map.idxOf? pid else none

/-- A packet taken from port L, routed by its PID (R21). -/
def State.portLPacket (s : State) (packet : Packet) : State :=
  let pid := pidOf packet
  if pid = pidManagement then s.managementPacket .portL packet
  else
    match s.cm.loadComponent pid with
    | some k => s.loadPacket k packet
    | none =>
      if pid = pidNull then s else s.countIntake .l fun k => { k with ignored := count k.ignored }

/-- The arrival stamp of a packet: site time as it stood when its sync byte was received, read back from site time now
(R7, R69; log entry 29). -/
def State.arrivalStamp (s : State) (b : SyncByte) : SiteTime :=
  addTicks s.tu.time (-((b.ago : Int) + if b.beforeStep then s.tu.lastStep else 0))

/-- A packet taken at a LOCKED port (R2, R7, R8): the run of bad sync bytes is cleared, the packet counted and handed
on. A command from port L may have made a group start late (R27), which takes place after it (DESIGN CHOICE, log entry 40). -/
def State.packetTaken (s : State) (p : Port) (arrival : SiteTime) (packet : Packet) : State :=
  if (s.framer p).link = .locked then
    let s := s.modifyFramer p fun x => { x with badSync := 0 }
    let s := s.countIntake p fun k =>
      { k with
        taken := count k.taken
        transportErrors := countIf (transportError packet) k.transportErrors }
    match p.feed? with
    | some f => s.feedPacket f packet arrival
    | none => (s.portLPacket packet).settle
  else s

end Sys2Proof.Machine
end

