-- ==== Sys2Proof/Machine/Restart.lean ====
section
/-! DEFINITION. The ends of memory slots (R136, R143), the sending of monitor packets (R191), and the resets: RESET held and
released (R197) and the warm restart (R196), block by block as each chapter gives it. -/

namespace Sys2Proof.Machine

/-! ### The end of a memory slot (R136, R138, R143) -/

/-- The channel and the component's number among its channel's of one of the sixteen. -/
def channelOf (p : Fin 16) : Fin 4 := ⟨p.val / 4, by omega⟩

def componentOf (p : Fin 16) : Fin 4 := ⟨p.val % 4, by omega⟩

/-- The record of the clip a channel holds (R143). -/
def State.heldClip (s : State) (c : Fin 4) : ClipRecord := s.cm.recordOf (((s.channel c).active.map (·.clip)).getD 0)

/-- The packet read joins its queue and the read pointer moves to the component's next stored position (R143). -/
def ClipController.finishRead (m : ClipController) (p : Fin 16) (r : ClipRecord) (i a : Nat) : ClipController :=
  let next := (m.positionsOf r (componentOf p).val (i + 1)).head?
  { m with
    prefetch := modifyAt m.prefetch p fun q =>
      { queue := q.queue ++ [m.packetAt a], pointer := next, exhausted := next.isNone } }

/-- The transfer in progress is over. -/
def State.endTransfer (s : State) : State := { s with cm := { s.cm with transfer := none } }

/-- A prefetch read ends (R143); one that is not live completes without effect. -/
def State.prefetchReadComplete (s : State) : Host.Outcome State Fault Refusal :=
  match s.cm.transfer with
  | some (.read p true) =>
    match (getAt s.cm.prefetch p).pointer with
    | none => .next s.endTransfer
    | some i =>
      let r := s.heldClip (channelOf p)
      match r.validPlace i with
      | none => .fault .clipAddress
      | some a => .next { s with cm := s.cm.finishRead p r i a }.endTransfer
  | some (.read _ false) => .next s.endTransfer
  | some (.write _) => .next s
  | none => .next s

/-- The head packet of the write buffer stands in its place and leaves the buffer (R136). -/
def ClipController.finishWrite (m : ClipController) (a : Nat) (x : BufferedPacket) (rest : List BufferedPacket) :
    ClipController :=
  { m with dram := m.dram.write a x.packet, load := { m.load with buffer := rest } }

/-- A load write ends (R136); a draining load whose buffer is empty then is complete (R138). -/
def State.loadWriteComplete (s : State) : Host.Outcome State Fault Refusal :=
  match s.cm.transfer with
  | some (.write true) =>
    match s.cm.load.buffer with
    | [] => .next s.endTransfer
    | x :: rest =>
      match (s.cm.record s.cm.load.record).validPlace x.position with
      | none => .fault .clipAddress
      | some a =>
        .next { s with cm := s.cm.finishWrite a x rest }.endTransfer.loadDrained
  | some (.write false) => .next s.endTransfer
  | some (.read _ _) => .next s
  | none => .next s

/-! ### Port M (R191) -/

/-- The packet at the head of the monitor queue has been sent, with its continuity count (R191). -/
def State.monitorPacketSent (s : State) : State :=
  match s.mu.queue with
  | [] => s
  | x :: rest =>
    { s with
      mu := { s.mu with queue := rest, continuity := s.mu.continuity + 1 }
      lines := { s.lines with portM := some (setContinuity x.packet s.mu.continuity) } }

/-! ### RESET (R197) -/

/-- RESET is released: every block in its power-on state; the input lines read as they stand (R197). -/
def State.powerOn (s : State) (pins : BitVec 12) : State :=
  { State.atPowerOn pins ⟨(s.framer .a).signal, (s.framer .b).signal, (s.framer .l).signal⟩ s.tu.freq10 with
    model := s.model, pending := s.pending }

/-- RESET is asserted: ports T and M send nothing and ALARM is released (R197). -/
def State.assertReset (s : State) : State :=
  { s with
    lines := { resetHeld := true, portT := none, portM := none }
    su := { s.su with alarm := false } }

/-! ### The warm restart (R196) -/

/-- R23. No rule gives the run of bad sync bytes at a warm restart: 0 (DESIGN CHOICE, log entry 21). -/
def Framer.restart (x : Framer) : Framer :=
  { x with
    link := if x.signal then .searching else .absent
    badSync := 0, timer := none, counters := .zero }

/-- R23. -/
def FeedIntake.restart (fi : FeedIntake) : FeedIntake :=
  { framers := ⟨fi.framers.a.restart, fi.framers.b.restart, fi.framers.l.restart⟩, openGroups := ⟨none, none⟩ }

/-- R48. -/
def ReleaseEngine.restart (r : ReleaseEngine) : ReleaseEngine :=
  { ReleaseEngine.atPowerOn with
    mode := r.mode, selected := r.preferred, preferred := r.preferred, revertive := r.revertive
    revertHold := r.revertHold }

/-- R67, but for the anchor in MFN mode. -/
def DepartureTimer.restart (d : DepartureTimer) : DepartureTimer :=
  { d with reanchor := false, nextSlot := none, pendingRate := none, pendingOffset := none, counters := .zero }

/-- R103. -/
def StreamTable.restart (t : StreamTable) : StreamTable :=
  { t.clearCounters with entries := t.entries.map fun e => { e.cleared with lastIn := none, lastOut := none } }

/-- R130; the last released primary PTS becomes absent in every channel (R105). -/
def Channel.restart (ch : Channel) : Channel :=
  match ch.state with
  | .disabled => { ch with lastPts := none, counters := .zero }
  | _ =>
    { ch with
      state := .network, lastPts := none, list := [], active := none, subst := Vector.replicate 4 .returned
      counters := .zero }

/-- R130. -/
def SpliceController.restart (sc : SpliceController) : SpliceController :=
  { sc with channels := sc.channels.map Channel.restart }

/-- A DELETE_PENDING record gives back its pages; every other use count becomes 0 (R148). -/
def ClipController.releaseRecord (m : ClipController) (i : Fin 64) : ClipController :=
  if (m.record i).state = .deletePending then m.giveBack i else m.modifyRecord i fun r => { r with use := 0 }

/-- R148. A memory transfer in progress goes on to the end of its slot and has no effect (DESIGN CHOICE, log entry 41). -/
def ClipController.restart (m : ClipController) : ClipController :=
  let m := if m.load.state = .closed then m else m.endLoad .restart
  let m := (List.finRange 64).foldl ClipController.releaseRecord m
  { m with
    load := .closed
    prefetch := Vector.replicate 16 .atPowerOn
    transfer := m.transfer.map fun t =>
      match t with
      | .read p _ => .read p false
      | .write _ => .write false
    counters := .zero }

/-- R183. The divider count, which no rule names here, stays as it was (DESIGN CHOICE, log entry 21). -/
def Trace.restart (t : Trace) : Trace := { t with state := .stopped, nullSlots := 0, gapPositions := 0 }

/-- R177, R179, R183, R185, but for the scan timer and the gate's first derivation. -/
def Supervision.restart (u : Supervision) : Supervision :=
  { u with
    factors := Vector.replicate 9 .continue, conditions := Vector.replicate 9 false
    seenOverflow := false, seenUnderrun := false, seenContinuity := false
    effective := .stopped, flags := 0#26, alarm := false, trace := u.trace.restart, counters := .zero }

/-- R196. -/
def Management.restarted (m : Management) : Management :=
  { m with queue := [], continuity := 0#4, restartPending := false, counters := .zero }

/-- Every block as the restart leaves it, before the anchor, the scan timer and the gate. -/
def State.restartBlocks (s : State) : State :=
  { s with
    fi := s.fi.restart, ds := .emptied, re := s.re.restart, dt := s.dt.restart, st := s.st.restart, sc := s.sc.restart
    cm := s.cm.restart, su := s.su.restart, mu := s.mu.restarted }

/-- The warm restart takes effect (R196): every block, then MFN pacing anchored (R58), the scan timer from zero (R165), and
the gate, STOPPED without a flag, entering STARTING where the requested state is HOLD or RUN (R177). The flags, counters and queue
are cleared before the gate is judged (DEDUCED, log entry 38). -/
def State.takeRestart (s : State) : State := s.restartBlocks.anchorMfn.restartScanTimer.regate

/-- The RESTART reply has left port M (R196). -/
def State.restartDue (s : State) : Bool := s.mu.restartPending && s.mu.queue.isEmpty

end Sys2Proof.Machine
end

