-- ==== Sys2Proof/Machine/Events.lean ====
section
/-! DEFINITION. The meanings of the events of the part, one for each row. An event that the state does not call for (a
timer that is not due, a packet at a port that is not LOCKED) changes nothing (log entry 6); while RESET is held only RESET
itself and the levels of the input lines are followed (log entry 7). -/

namespace Sys2Proof.Machine

/-- The event's effect, while RESET is not held (R197). -/
def State.whileLive (s : State) (f : State → State) : State := if s.lines.resetHeld then s else f s

/-- POWER_ON (R197). -/
def execPowerOn (pins : BitVec 12) (s : State) : Host.Outcome State Fault Refusal := .next (s.powerOn pins)

/-- SIGNAL_APPEARS (R1, R5). -/
def execSignalAppears (p : Port) (s : State) : Host.Outcome State Fault Refusal :=
  .next (if s.lines.resetHeld then s.modifyFramer p fun x => { x with signal := true } else s.signalAppears p)

/-- SIGNAL_DISAPPEARS (R2, R5). -/
def execSignalDisappears (p : Port) (s : State) : Host.Outcome State Fault Refusal :=
  .next (if s.lines.resetHeld then s.modifyFramer p fun x => { x with signal := false } else s.signalDisappears p)

/-- LOCK_ACQUIRED (R1, R4, R6). -/
def execLockAcquired (p : Port) (s : State) : Host.Outcome State Fault Refusal :=
  .next (s.whileLive fun s => s.lockAcquired p)

/-- SYNC_ERROR (R2). -/
def execSyncError (p : Port) (s : State) : Host.Outcome State Fault Refusal :=
  .next (s.whileLive fun s => s.syncError p)

/-- BRIDGING_TIMER_EXPIRY (R4). -/
def execBridgingTimerExpiry (p : Port) (s : State) : Host.Outcome State Fault Refusal :=
  .next (s.whileLive fun s => s.bridgingExpires p)

/-- ABSENCE_TIMER_EXPIRY (R5). -/
def execAbsenceTimerExpiry (p : Port) (s : State) : Host.Outcome State Fault Refusal :=
  .next (s.whileLive fun s => s.absenceExpires p)

/-- PACKET_TAKEN (R2, R7 to R22): Feed Intake reads site time for the arrival stamp (R69). -/
def execPacketTaken (p : Port) (sync : SyncByte) (packet : Packet) (s : State) :
    Host.Outcome State Fault Refusal :=
  .next (s.whileLive fun s => s.packetTaken p (s.arrivalStamp sync) packet)

/-- GROUP_START (R27, R28), with the starts that it makes due at once (R27). -/
def execGroupStart (s : State) : Host.Outcome State Fault Refusal :=
  .next (s.whileLive fun s => s.groupStart.settle)

/-- PASSED_GROUP (R29); where a group start is due at the same instant, that is taken first. -/
def execPassedGroup (f : Feed) (n : Cadence) (s : State) : Host.Outcome State Fault Refusal :=
  .next (s.whileLive fun s =>
    if s.passedDue f n ∧ s.groupStartDue = false then (s.discardPassed f n).recandidate none
    else s)

/-- STALE_RECORD (R30). -/
def execStaleRecord (f : Feed) (n : Cadence) (s : State) : Host.Outcome State Fault Refusal :=
  .next (s.whileLive fun s =>
    if s.staleDue f n then
      ((s.dropRecord f n).countRelease fun k => { k with staleRecords := count k.staleRecords }).recandidate
        s.dueCandidate
    else s)

/-- DEPARTURE_SLOT (R53, R54). -/
def execDepartureSlot (s : State) : Host.Outcome State Fault Refusal := .next (s.whileLive State.departureSlot)

/-- FORCED_RETURN (R121). -/
def execForcedReturn (channel : Fin 4) (s : State) : Host.Outcome State Fault Refusal :=
  .next (s.whileLive fun s => if s.forcedDue channel then s.forceReturn channel else s)

/-- REVERT_TIMER_EXPIRY (R37). -/
def execRevertTimerExpiry (s : State) : Host.Outcome State Fault Refusal := .next (s.whileLive State.pendRevert)

/-- REF_TIME_MESSAGE (R70). -/
def execRefTimeMessage (sec : Seconds) (s : State) : Host.Outcome State Fault Refusal :=
  .next (s.whileLive fun s => { s with tu := { s.tu with lastTimeValue := some sec } })

/-- PPS_PULSE (R71 to R76), with the late starts its step makes (R27, R68): at a lock they come after TIMING is cleared and
STARTING entered, the change being taken before the anchor (R163; DESIGN CHOICE, log entry 39). -/
def execPpsPulse (s : State) : Host.Outcome State Fault Refusal := .next (s.whileLive fun s => s.pulse.settle)

/-- MISSING_PULSE_TIMER_EXPIRY (R71, R73, R76). -/
def execMissingPulseTimerExpiry (s : State) : Host.Outcome State Fault Refusal :=
  .next (s.whileLive fun s => if s.tu.missingPulseDue then s.missingPulse else s)

/-- REF_10MHZ_LOST (R72, R76). -/
def execRef10MHzLost (s : State) : Host.Outcome State Fault Refusal :=
  .next (if s.lines.resetHeld then { s with tu := { s.tu with freq10 := false } } else s.loseFrequency)

/-- HOLDOVER_SECOND_END (R79, R80). -/
def execHoldoverSecondEnd (s : State) : Host.Outcome State Fault Refusal :=
  .next (s.whileLive fun s => if s.tu.holdSecondOver then s.endHoldSecond else s)

/-- SCAN (R165, R166). -/
def execScan (s : State) : Host.Outcome State Fault Refusal :=
  .next (s.whileLive fun s => if s.scanDue then s.takeScan else s)

/-- MEMORY_SLOT (R144). -/
def execMemorySlot (s : State) : Host.Outcome State Fault Refusal := .next (s.whileLive State.memorySlot)

/-- PREFETCH_READ_COMPLETE (R143). -/
def execPrefetchReadComplete (s : State) : Host.Outcome State Fault Refusal :=
  if s.lines.resetHeld then .next s else s.prefetchReadComplete

/-- LOAD_WRITE_COMPLETE (R136, R138). -/
def execLoadWriteComplete (s : State) : Host.Outcome State Fault Refusal :=
  if s.lines.resetHeld then .next s else s.loadWriteComplete

/-- MONITOR_PACKET_SENT (R191). -/
def execMonitorPacketSent (s : State) : Host.Outcome State Fault Refusal := .next (s.whileLive State.monitorPacketSent)

/-- WARM_RESTART (R196). -/
def execWarmRestart (s : State) : Host.Outcome State Fault Refusal :=
  .next (s.whileLive fun s => if s.restartDue then s.takeRestart else s)

/-- REF_10MHZ_RESTORED (R72). -/
def execRef10MHzRestored (s : State) : Host.Outcome State Fault Refusal :=
  .next { s with tu := { s.tu with freq10 := true } }

/-- RESET_ASSERTED (R197). -/
def execResetAsserted (s : State) : Host.Outcome State Fault Refusal := .next s.assertReset

end Sys2Proof.Machine
end

