-- ==== Sys2Proof/Machine/Management.lean ====
section
/-! DEFINITION. The meanings of the management commands, one for each row of the catalogue: an accepted packet decoded,
tested, executed whole at its execution point and answered (R187 to R190), while RESET is not held. -/

namespace Sys2Proof.Machine

/-- MODE_SET (R45). -/
def execModeSet (h : Header) (mode : Nat) (s : State) : Host.Outcome State Fault Refusal :=
  .next (s.whileLive fun s => s.manage h (.modeSet mode))

/-- FEED_POLICY_SET (R46). -/
def execFeedPolicySet (h : Header) (p : FeedPolicyParams) (s : State) : Host.Outcome State Fault Refusal :=
  .next (s.whileLive fun s => s.manage h (.feedPolicySet p))

/-- RATE_SET (R59). -/
def execRateSet (h : Header) (rate : Nat) (timing : TimingParam) (s : State) : Host.Outcome State Fault Refusal :=
  .next (s.whileLive fun s => s.manage h (.rateSet rate timing))

/-- OFFSET_SET (R60). -/
def execOffsetSet (h : Header) (offset : Int) (timing : TimingParam) (s : State) : Host.Outcome State Fault Refusal :=
  .next (s.whileLive fun s => s.manage h (.offsetSet offset timing))

/-- DELAY_SET (R63). -/
def execDelaySet (h : Header) (ms : Nat) (s : State) : Host.Outcome State Fault Refusal :=
  .next (s.whileLive fun s => s.manage h (.delaySet ms))

/-- TIME_SET (R84), with the late starts its step makes (R27, R68). They take place after the reply is queued, so that their
notices stand behind it (R189, R192; DESIGN CHOICE, log entry 40). -/
def execTimeSet (h : Header) (sec : Seconds) (s : State) : Host.Outcome State Fault Refusal :=
  .next (s.whileLive fun s => (s.manage h (.timeSet sec)).settle)

/-- HOLDOVER_SET (R85). -/
def execHoldoverSet (h : Header) (limit : Nat) (s : State) : Host.Outcome State Fault Refusal :=
  .next (s.whileLive fun s => s.manage h (.holdoverSet limit))

/-- STREAM_WRITE (R97). -/
def execStreamWrite (h : Header) (p : StreamWriteParams) (s : State) : Host.Outcome State Fault Refusal :=
  .next (s.whileLive fun s => s.manage h (.streamWrite p))

/-- STREAM_ERASE (R99). -/
def execStreamErase (h : Header) (pid : Nat) (s : State) : Host.Outcome State Fault Refusal :=
  .next (s.whileLive fun s => s.manage h (.streamErase pid))

/-- STREAM_READ (R100). -/
def execStreamRead (h : Header) (choice : Nat) (pid : Nat) (s : State) : Host.Outcome State Fault Refusal :=
  .next (s.whileLive fun s => s.manage h (.streamRead choice pid))

/-- DEFAULT_ACTION_SET (R101). -/
def execDefaultActionSet (h : Header) (action : Nat) (s : State) : Host.Outcome State Fault Refusal :=
  .next (s.whileLive fun s => s.manage h (.defaultActionSet action))

/-- CHANNEL_SET (R123). -/
def execChannelSet (h : Header) (p : ChannelSetParams) (s : State) : Host.Outcome State Fault Refusal :=
  .next (s.whileLive fun s => s.manage h (.channelSet p))

/-- CHANNEL_DISABLE (R124). -/
def execChannelDisable (h : Header) (channel : Nat) (s : State) : Host.Outcome State Fault Refusal :=
  .next (s.whileLive fun s => s.manage h (.channelDisable channel))

/-- CHANNEL_READ (R125). -/
def execChannelRead (h : Header) (choice : Nat) (channel : Nat) (s : State) : Host.Outcome State Fault Refusal :=
  .next (s.whileLive fun s => s.manage h (.channelRead choice channel))

/-- CUE_MATCH_WRITE (R126). -/
def execCueMatchWrite (h : Header) (p : CueMatchParams) (s : State) : Host.Outcome State Fault Refusal :=
  .next (s.whileLive fun s => s.manage h (.cueMatchWrite p))

/-- CUE_POST (R127). -/
def execCuePost (h : Header) (p : CuePostParams) (s : State) : Host.Outcome State Fault Refusal :=
  .next (s.whileLive fun s => s.manage h (.cuePost p))

/-- CUE_CANCEL (R128). -/
def execCueCancel (h : Header) (p : CueCancelParams) (s : State) : Host.Outcome State Fault Refusal :=
  .next (s.whileLive fun s => s.manage h (.cueCancel p))

/-- CLIP_LOAD_BEGIN (R134). -/
def execClipLoadBegin (h : Header) (p : LoadBeginParams) (s : State) : Host.Outcome State Fault Refusal :=
  .next (s.whileLive fun s => s.manage h (.clipLoadBegin p))

/-- CLIP_LOAD_END, with the completion of a load whose buffer is empty, behind the reply (R137, R138). -/
def execClipLoadEnd (h : Header) (clip : Nat) (s : State) : Host.Outcome State Fault Refusal :=
  .next (s.whileLive fun s => s.manage h (.clipLoadEnd clip))

/-- CLIP_LOAD_ABANDON (R140). -/
def execClipLoadAbandon (h : Header) (s : State) : Host.Outcome State Fault Refusal :=
  .next (s.whileLive fun s => s.manage h .clipLoadAbandon)

/-- CLIP_DELETE (R141). -/
def execClipDelete (h : Header) (clip : Nat) (s : State) : Host.Outcome State Fault Refusal :=
  .next (s.whileLive fun s => s.manage h (.clipDelete clip))

/-- CLIP_DIRECTORY_READ (R146). -/
def execClipDirectoryRead (h : Header) (choice : Nat) (clip : Nat) (s : State) : Host.Outcome State Fault Refusal :=
  .next (s.whileLive fun s => s.manage h (.clipDirectoryRead choice clip))

/-- GATE_REQUEST (R172). -/
def execGateRequest (h : Header) (value : Nat) (s : State) : Host.Outcome State Fault Refusal :=
  .next (s.whileLive fun s => s.manage h (.gateRequest value))

/-- DIAG_ACTION_WRITE (R173). -/
def execDiagActionWrite (h : Header) (condition : Nat) (action : Nat) (s : State) :
    Host.Outcome State Fault Refusal :=
  .next (s.whileLive fun s => s.manage h (.diagActionWrite condition action))

/-- SCAN_SET (R174). -/
def execScanSet (h : Header) (setting : Nat) (s : State) : Host.Outcome State Fault Refusal :=
  .next (s.whileLive fun s => s.manage h (.scanSet setting))

/-- EVENT_READ_CLEAR (R175). -/
def execEventReadClear (h : Header) (flags : Nat) (s : State) : Host.Outcome State Fault Refusal :=
  .next (s.whileLive fun s => s.manage h (.eventReadClear flags))

/-- EVENT_MASK_WRITE (R176). -/
def execEventMaskWrite (h : Header) (masks : List Nat) (s : State) : Host.Outcome State Fault Refusal :=
  .next (s.whileLive fun s => s.manage h (.eventMaskWrite masks))

/-- SNAPSHOT_TAKE (R179). -/
def execSnapshotTake (h : Header) (s : State) : Host.Outcome State Fault Refusal :=
  .next (s.whileLive fun s => s.manage h .snapshotTake)

/-- SNAPSHOT_READ (R179). -/
def execSnapshotRead (h : Header) (s : State) : Host.Outcome State Fault Refusal :=
  .next (s.whileLive fun s => s.manage h .snapshotRead)

/-- TRACE_CONFIGURE (R180). -/
def execTraceConfigure (h : Header) (p : TraceParams) (s : State) : Host.Outcome State Fault Refusal :=
  .next (s.whileLive fun s => s.manage h (.traceConfigure p))

/-- TRACE_START (R181). -/
def execTraceStart (h : Header) (s : State) : Host.Outcome State Fault Refusal :=
  .next (s.whileLive fun s => s.manage h .traceStart)

/-- TRACE_STOP (R181). -/
def execTraceStop (h : Header) (s : State) : Host.Outcome State Fault Refusal :=
  .next (s.whileLive fun s => s.manage h .traceStop)

/-- TRACE_READ (R183). -/
def execTraceRead (h : Header) (first : Nat) (count : Nat) (s : State) : Host.Outcome State Fault Refusal :=
  .next (s.whileLive fun s => s.manage h (.traceRead first count))

/-- COUNTERS_READ (R184). -/
def execCountersRead (h : Header) (selection : Nat) (clear : Nat) (s : State) : Host.Outcome State Fault Refusal :=
  .next (s.whileLive fun s => s.manage h (.countersRead selection clear))

/-- STATUS_READ (R193). -/
def execStatusRead (h : Header) (s : State) : Host.Outcome State Fault Refusal :=
  .next (s.whileLive fun s => s.manage h .statusRead)

/-- ADDRESS_WRITE (R194). -/
def execAddressWrite (h : Header) (group0 : Nat) (group1 : Nat) (s : State) : Host.Outcome State Fault Refusal :=
  .next (s.whileLive fun s => s.manage h (.addressWrite group0 group1))

/-- AUTHORITY_WRITE (R195). -/
def execAuthorityWrite (h : Header) (mask : Nat) (s : State) : Host.Outcome State Fault Refusal :=
  .next (s.whileLive fun s => s.manage h (.authorityWrite mask))

/-- RESTART (R196). -/
def execRestart (h : Header) (s : State) : Host.Outcome State Fault Refusal :=
  .next (s.whileLive fun s => s.manage h .restart)

/-- UNKNOWN_COMMAND: an accepted packet whose code is not in the catalogue (R188). -/
def execUnknownCommand (h : Header) (code : Byte) (s : State) : Host.Outcome State Fault Refusal :=
  .next (s.whileLive fun s => s.accepted h code none)

end Sys2Proof.Machine
end

