-- ==== Sys2Proof/Machine/Clock.lean ====
section
/-! DEFINITION. What the block does while no command waits: an event of its own that is due takes the queue's front, else one
tick of site time passes (chapter 4; log entries 2 to 4). -/

namespace Sys2Proof.Machine

/-- The commands `mk x` of the `xs` that are due. -/
def dueOf {α : Type} (xs : List α) (due : α → Bool) (mk : α → Instr) : List Instr := (xs.filter due).map mk

/-- PASSED_GROUP and STALE_RECORD for the records of a table that are due (R29, R30). -/
def State.dueRecords (s : State) (f : Feed) : List Instr :=
  let ns := (s.table f).map (·.number)
  dueOf ns (fun n => s.passedDue f n && !s.groupStartDue) (.passedGroup f) ++ dueOf ns (s.staleDue f) (.staleRecord f)

/-- The timers of the framers that have expired (R4, R5). -/
def State.dueFramers (s : State) : List Instr :=
  dueOf [Port.a, Port.b, Port.l] s.bridgingDue .bridgingTimerExpiry
    ++ dueOf [Port.a, Port.b, Port.l] s.absenceDue .absenceTimerExpiry

/-- The other events that are due at one instant; any of them may be taken first (R4, R29, R36, R121 and others). -/
def State.dueTogether (s : State) : List Instr :=
  (if s.groupStartDue then [.groupStart] else []) ++ (if s.slotDue then [.departureSlot] else [])
    ++ s.dueRecords .a ++ s.dueRecords .b ++ dueOf (List.finRange 4) s.forcedDue .forcedReturn
    ++ (if s.revertTimerReached && !s.re.revertPending then [.revertTimerExpiry] else []) ++ s.dueFramers
    ++ (if s.tu.missingPulseDue then [.missingPulseTimerExpiry] else []) ++ (if s.scanDue then [.scan] else [])

/-- The events of the block that are due now. The end of a holdover second is itself the advance of site time (R79), and a
warm restart takes effect at one instant (R196): each stands alone. -/
def State.dueEvents (s : State) : List Instr :=
  if s.tu.holdSecondOver then [.holdoverSecondEnd]
  else if s.restartDue then [.warmRestart]
  else s.dueTogether

/-- One tick of site time passes (R68). In LOCKED a free number of local ticks passes with it (log entry 2). -/
def State.advance (s : State) : State :=
  if s.tu.ref = .locked then
    { s with
      tu := s.tu.tick (Config.localTicksInLockedTick s.model.lockedTicks)
      model := { s.model with lockedTicks := s.model.lockedTicks + 1 } }
  else { s with tu := s.tu.tick 1 }

/-- One of some events, taken in a free order where there are several (log entry 3). -/
def State.take (s : State) (es : List Instr) : State :=
  match es with
  | [] => s
  | [e] => { s with pending := [e] }
  | e :: rest =>
    { s with
      pending := [((e :: rest)[Config.raceOrder s.model.races % (rest.length + 1)]?).getD e]
      model := { s.model with races := s.model.races + 1 } }

/-- The block idles: while RESET is held nothing happens; an event that is due comes to the front of the queue; else time
passes (log entry 4). -/
def State.idle (s : State) : State :=
  if s.lines.resetHeld then s
  else if s.dueEvents.isEmpty then s.advance
  else s.take s.dueEvents

end Sys2Proof.Machine
end

