-- ==== Sys2Proof/Machine/Dispatch.lean ====
section
/-! DEFINITION. The meaning of every command, one arm per row of the opcode table. -/

namespace Sys2Proof.Machine

def exec (i : Instr) (s : State) : Host.Outcome State Fault Refusal :=
  match i with
  | .powerOn pins => Sys2Proof.Machine.execPowerOn pins s
  | .signalAppears p => Sys2Proof.Machine.execSignalAppears p s
  | .signalDisappears p => Sys2Proof.Machine.execSignalDisappears p s
  | .lockAcquired p => Sys2Proof.Machine.execLockAcquired p s
  | .syncError p => Sys2Proof.Machine.execSyncError p s
  | .bridgingTimerExpiry p => Sys2Proof.Machine.execBridgingTimerExpiry p s
  | .absenceTimerExpiry p => Sys2Proof.Machine.execAbsenceTimerExpiry p s
  | .packetTaken p sync packet => Sys2Proof.Machine.execPacketTaken p sync packet s
  | .groupStart => Sys2Proof.Machine.execGroupStart s
  | .passedGroup f n => Sys2Proof.Machine.execPassedGroup f n s
  | .staleRecord f n => Sys2Proof.Machine.execStaleRecord f n s
  | .departureSlot => Sys2Proof.Machine.execDepartureSlot s
  | .forcedReturn channel => Sys2Proof.Machine.execForcedReturn channel s
  | .revertTimerExpiry => Sys2Proof.Machine.execRevertTimerExpiry s
  | .refTimeMessage sec => Sys2Proof.Machine.execRefTimeMessage sec s
  | .ppsPulse => Sys2Proof.Machine.execPpsPulse s
  | .missingPulseTimerExpiry => Sys2Proof.Machine.execMissingPulseTimerExpiry s
  | .ref10MHzLost => Sys2Proof.Machine.execRef10MHzLost s
  | .holdoverSecondEnd => Sys2Proof.Machine.execHoldoverSecondEnd s
  | .scan => Sys2Proof.Machine.execScan s
  | .memorySlot => Sys2Proof.Machine.execMemorySlot s
  | .prefetchReadComplete => Sys2Proof.Machine.execPrefetchReadComplete s
  | .loadWriteComplete => Sys2Proof.Machine.execLoadWriteComplete s
  | .monitorPacketSent => Sys2Proof.Machine.execMonitorPacketSent s
  | .warmRestart => Sys2Proof.Machine.execWarmRestart s
  | .modeSet h mode => Sys2Proof.Machine.execModeSet h mode s
  | .feedPolicySet h p => Sys2Proof.Machine.execFeedPolicySet h p s
  | .rateSet h rate timing => Sys2Proof.Machine.execRateSet h rate timing s
  | .offsetSet h offset timing => Sys2Proof.Machine.execOffsetSet h offset timing s
  | .delaySet h ms => Sys2Proof.Machine.execDelaySet h ms s
  | .timeSet h sec => Sys2Proof.Machine.execTimeSet h sec s
  | .holdoverSet h limit => Sys2Proof.Machine.execHoldoverSet h limit s
  | .streamWrite h p => Sys2Proof.Machine.execStreamWrite h p s
  | .streamErase h pid => Sys2Proof.Machine.execStreamErase h pid s
  | .streamRead h choice pid => Sys2Proof.Machine.execStreamRead h choice pid s
  | .defaultActionSet h action => Sys2Proof.Machine.execDefaultActionSet h action s
  | .channelSet h p => Sys2Proof.Machine.execChannelSet h p s
  | .channelDisable h channel => Sys2Proof.Machine.execChannelDisable h channel s
  | .channelRead h choice channel => Sys2Proof.Machine.execChannelRead h choice channel s
  | .cueMatchWrite h p => Sys2Proof.Machine.execCueMatchWrite h p s
  | .cuePost h p => Sys2Proof.Machine.execCuePost h p s
  | .cueCancel h p => Sys2Proof.Machine.execCueCancel h p s
  | .clipLoadBegin h p => Sys2Proof.Machine.execClipLoadBegin h p s
  | .clipLoadEnd h clip => Sys2Proof.Machine.execClipLoadEnd h clip s
  | .clipLoadAbandon h => Sys2Proof.Machine.execClipLoadAbandon h s
  | .clipDelete h clip => Sys2Proof.Machine.execClipDelete h clip s
  | .clipDirectoryRead h choice clip => Sys2Proof.Machine.execClipDirectoryRead h choice clip s
  | .gateRequest h value => Sys2Proof.Machine.execGateRequest h value s
  | .diagActionWrite h condition action => Sys2Proof.Machine.execDiagActionWrite h condition action s
  | .scanSet h setting => Sys2Proof.Machine.execScanSet h setting s
  | .eventReadClear h flags => Sys2Proof.Machine.execEventReadClear h flags s
  | .eventMaskWrite h masks => Sys2Proof.Machine.execEventMaskWrite h masks s
  | .snapshotTake h => Sys2Proof.Machine.execSnapshotTake h s
  | .snapshotRead h => Sys2Proof.Machine.execSnapshotRead h s
  | .traceConfigure h p => Sys2Proof.Machine.execTraceConfigure h p s
  | .traceStart h => Sys2Proof.Machine.execTraceStart h s
  | .traceStop h => Sys2Proof.Machine.execTraceStop h s
  | .traceRead h first count => Sys2Proof.Machine.execTraceRead h first count s
  | .countersRead h selection clear => Sys2Proof.Machine.execCountersRead h selection clear s
  | .statusRead h => Sys2Proof.Machine.execStatusRead h s
  | .addressWrite h group0 group1 => Sys2Proof.Machine.execAddressWrite h group0 group1 s
  | .authorityWrite h mask => Sys2Proof.Machine.execAuthorityWrite h mask s
  | .restart h => Sys2Proof.Machine.execRestart h s
  | .unknownCommand h code => Sys2Proof.Machine.execUnknownCommand h code s
  | .ref10MHzRestored => Sys2Proof.Machine.execRef10MHzRestored s
  | .resetAsserted => Sys2Proof.Machine.execResetAsserted s

end Sys2Proof.Machine
end

