-- ==== Sys2Proof/Safety.lean ====
section
/-! DEFINITION. What counts as a sound state and a safe run of the S640: the laws of the device that its chapters state, as
predicates, and the terms in which the statements speak of a command that is heard and of what it leaves alone. -/

namespace Sys2Proof.Machine

/-! ### The laws of the device -/

/-- The balance of a feed: taken equals released plus discarded plus dropped plus resident, modulo 2^48 (R18). -/
def State.BalancedFeed (s : State) (f : Feed) : Prop :=
  (s.ds.accounts.get f).taken =
    (s.ds.accounts.get f).released + (s.ds.accounts.get f).discarded + (s.ds.accounts.get f).dropped
      + BitVec.ofNat 48 (s.ring f).resident

/-- Both feeds are in balance (R18). -/
def State.Balanced (s : State) : Prop := ∀ f, s.BalancedFeed f

/-- No group table holds more than 64 records (R12, R18). -/
def State.TablesBounded (s : State) : Prop := ∀ f, (s.table f).length ≤ tableRecords

/-- No group table holds two records with the same cadence number (R12). -/
def State.NumbersDistinct (s : State) : Prop := ∀ f, ((s.table f).map (·.number)).Nodup

/-- No two occupied slots of a ring are the same slot, and every slot and the write index are numbered 0..16,383 (R9). -/
def Ring.Lawful (r : Ring) : Prop :=
  (r.slots.map (·.index)).Nodup ∧ (∀ x ∈ r.slots, x.index < ringSlots) ∧ r.writeIndex < ringSlots

/-- Rings and tables keep to their sizes, and the numbers of a table are distinct (R9, R12, R18). -/
def State.StoreLawful (s : State) : Prop := s.TablesBounded ∧ s.NumbersDistinct ∧ ∀ f, (s.ring f).Lawful

/-- The tick of site time is below 27,000,000 (R69), the run count lies in 0..4 (R73) and the history ring holds at most 16
counts (R77). -/
def State.TimeInRange (s : State) : Prop :=
  s.tu.time.tick < ticksPerSecond ∧ s.tu.run ≤ 4 ∧ s.tu.history.length ≤ 16

/-- The state in which the Stream Table keeps its entries: one per input PID, in ascending order, at most 128, and no two
PASS entries that share a produced PID (R95). -/
def StreamTable.Consistent (t : StreamTable) : Prop :=
  t.entries.Pairwise (fun x y => x.inPid < y.inPid) ∧ t.entries.length ≤ streamEntries
    ∧ t.entries.Pairwise (fun x y => x.action = .pass → y.action = .pass → x.produced ≠ y.produced)

/-- A cue list never holds more than 8 cues, and never two cues with the same event id (R108). -/
def Channel.ListLawful (ch : Channel) : Prop := ch.list.length ≤ cueListMax ∧ (ch.list.map (·.event)).Nodup

def State.CueListsLawful (s : State) : Prop := ∀ c, (s.channel c).ListLawful

/-- Every clip-memory page is in exactly one place, the free list or the page list of one record that is not FREE; and the
record of a load in progress is LOADING (R131, 7.3). -/
def ClipController.PagesAccounted (m : ClipController) : Prop :=
  (m.freeList ++ m.directory.toList.flatMap (·.pages)).Perm (List.range clipPages)
    ∧ (∀ i, (m.record i).state = .free → (m.record i).pages = [])
    ∧ (m.load.state ≠ .closed → (m.record m.load.record).state = .loading)

/-- The clip memory and the tag store are in their canonical form. -/
def ClipController.StoresCanonical (m : ClipController) : Prop := Memory.wf m.dram ∧ Memory.wf m.tags

/-- The monitor queue holds at most 64 packets (R191). -/
def State.QueueBounded (s : State) : Prop := s.mu.queue.length ≤ monitorMax

/-- ALARM is asserted while some flag is both set and unmasked, and released otherwise (R171); while RESET is held it is
released (R197). -/
def State.AlarmFollows (s : State) : Prop :=
  s.su.alarm = (!s.lines.resetHeld && alarmLevel s.su.flags s.su.unmasked)

/-- A flag is set. -/
def State.flagSet (s : State) (f : EventFlag) : Bool := s.su.flags.getLsbD f.number

/-! ### The arithmetic of a run of slots or seconds -/

/-- The ticks from an anchor to the start of slot `k`, the pacer as given (R53). -/
def Pacer.ticksTo : Nat → Pacer → Nat
  | 0, _ => 0
  | k + 1, p => p.advance.1 + Pacer.ticksTo k p.advance.2

/-- The local ticks of `k` holdover seconds in a row (R78). -/
def HoldLength.ticksOver : Nat → HoldLength → Nat
  | 0, _ => 0
  | k + 1, h => h.next.1 + HoldLength.ticksOver k h.next.2

/-! ### Pulses -/

/-- A pulse that arrived now would be good (R72). -/
def TimingUnit.PulseGood (t : TimingUnit) : Prop :=
  ∃ p w, t.lastPulse = some p ∧ p.value = some w ∧ t.lastTimeValue = some (w + 1)
    ∧ 26997300 ≤ t.localTicks - p.localTick ∧ t.localTicks - p.localTick ≤ 27002700 ∧ t.freq10 = true

/-! ### Commands that are heard -/

/-- The packet on PID 8180 that carries a command to an address (11.6). -/
def commandPacket (destination : Nat) (tag : Byte) (c : Command) : Packet :=
  let body := withCrc
    (toBytes 2 destination ++ [codeOf c, tag] ++ toBytes 1 (encodeParams c).length ++ encodeParams c)
  [0x47#8, 0x1F#8, 0xF4#8, 0x10#8] ++ body ++ List.replicate (184 - body.length) 0xFF#8

/-- An accepted management packet of this class from this source is decoded and its command runs: RESET is not held, no
restart is pending, and the class is allowed to the source (R188, R196, R197). -/
def State.Hears (s : State) (source : Source) (c : AuthorityClass) : Prop :=
  s.lines.resetHeld = false ∧ s.mu.restartPending = false ∧ s.mu.allows source c = true

/-- The state with the command counted as accepted from its source (R187). -/
def State.heard (s : State) (source : Source) : State := s.countManagement fun k => k.accept source

/-! ### The bytes of a packet (11.6) -/

/-- Byte `i` of a packet as a number; 0 beyond its end. -/
def byteNat (x : Packet) (i : Nat) : Nat := (x.getD i 0#8).toNat

/-- Where the payload begins: byte 4, or byte 5 plus the adaptation field length where that field is present. -/
def payloadAt (x : Packet) : Nat := if byteNat x 3 / 32 % 2 = 1 then 5 + byteNat x 4 else 4

/-- The 33 bits of the timestamp in the five bytes from `o`: bits 32..30, 29..22, 21..15, 14..7 and 6..0. -/
def stampAt (x : Packet) (o : Nat) : Nat :=
  byteNat x o / 2 % 8 * 2 ^ 30 + byteNat x (o + 1) * 2 ^ 22 + byteNat x (o + 2) / 2 * 2 ^ 15 + byteNat x (o + 3) * 2 ^ 7
    + byteNat x (o + 4) / 2

/-- The packet has a readable PTS: payload start and payload, no transport error, scrambling control 0, and at the payload's start an
elementary-stream header that carries a PTS (R104). -/
abbrev HasPts (x : Packet) : Prop :=
  byteNat x 1 / 64 % 2 = 1 ∧ byteNat x 3 / 16 % 2 = 1 ∧ byteNat x 1 / 128 = 0 ∧ byteNat x 3 / 64 = 0
    ∧ payloadAt x + 14 ≤ x.length ∧ byteNat x (payloadAt x) = 0 ∧ byteNat x (payloadAt x + 1) = 0
    ∧ byteNat x (payloadAt x + 2) = 1 ∧ byteNat x (payloadAt x + 7) / 128 = 1 ∧ 5 ≤ byteNat x (payloadAt x + 8)

/-- The header carries a DTS as well (R104). -/
abbrev HasDts (x : Packet) : Prop :=
  HasPts x ∧ byteNat x (payloadAt x + 7) / 64 % 2 = 1 ∧ 10 ≤ byteNat x (payloadAt x + 8) ∧ payloadAt x + 19 ≤ x.length

/-- Between `x` and `y` the timestamp in the five bytes from `o` has moved by `k` modulo 2^33, its four-bit prefix and its three marker
bits kept (R154). -/
def StampMoved (x y : Packet) (k : Pts) (o : Nat) : Prop :=
  stampAt y o = (stampAt x o + k.toNat) % 2 ^ 33 ∧ byteNat y o / 16 = byteNat x o / 16 ∧ byteNat y o % 2 = byteNat x o % 2
    ∧ byteNat y (o + 2) % 2 = byteNat x (o + 2) % 2 ∧ byteNat y (o + 4) % 2 = byteNat x (o + 4) % 2

/-- `y` is `x` with every timestamp it carries, `moved` in number, moved by `k`: the PTS at offset 9 of the payload and the DTS at 14;
no other byte changes (R154). -/
def Rebased (x y : Packet) (k : Pts) (moved : Nat) : Prop :=
  y.length = x.length ∧ (¬ HasPts x → y = x ∧ moved = 0)
    ∧ (HasPts x → StampMoved x y k (payloadAt x + 9) ∧ ∀ i, i < payloadAt x + 9 ∨ payloadAt x + 19 ≤ i → y[i]? = x[i]?)
    ∧ (HasPts x → ¬ HasDts x → moved = 1 ∧ ∀ i, payloadAt x + 14 ≤ i → y[i]? = x[i]?)
    ∧ (HasDts x → moved = 2 ∧ StampMoved x y k (payloadAt x + 14))

/-- The packet carries a clock reference: an adaptation field of length 7 or more with that flag set (R64). -/
abbrev HasClock (x : Packet) : Prop := byteNat x 3 / 32 % 2 = 1 ∧ 7 ≤ byteNat x 4 ∧ byteNat x 5 / 16 % 2 = 1

/-- `y` is `x`, of 188 bytes, with its clock reference turned into stuffing: the flag is cleared, the bytes of the adaptation field
behind the reference have moved six places toward its start, and the last six bytes of the field, or of the packet where the field
runs past its end, are 0xFF (R152, log entry 35). -/
def ClockStuffed (x y : Packet) : Prop :=
  y.length = 188 ∧ (∀ i, i < 5 → y[i]? = x[i]?)
    ∧ byteNat y 5 / 32 = byteNat x 5 / 32 ∧ byteNat y 5 / 16 % 2 = 0 ∧ byteNat y 5 % 16 = byteNat x 5 % 16
    ∧ ∀ e, e = min (5 + byteNat x 4) 188 →
        (∀ i, 6 ≤ i → i + 6 < e → y[i]? = x[i + 6]?) ∧ (∀ i, e ≤ i + 6 → i < e → y[i]? = some 0xFF#8)
          ∧ ∀ i, e ≤ i → y[i]? = x[i]?

/-- `y` is `x` with another PID and another continuity count, every other bit as it was (R91, R92). -/
def Remapped (x y : Packet) (pid : Pid) (n : Continuity) : Prop :=
  y.length = x.length ∧ byteNat y 1 / 32 = byteNat x 1 / 32 ∧ byteNat y 1 % 32 * 256 + byteNat y 2 = pid
    ∧ byteNat y 3 / 16 = byteNat x 3 / 16 ∧ byteNat y 3 % 16 = n.toNat ∧ ∀ i, i = 0 ∨ 4 ≤ i → y[i]? = x[i]?

/-- The 48 bits of the clock reference field, bytes 6 to 11: 33 bits of base, 6 bits, 9 bits of extension. -/
def clockBits (x : Packet) : Nat :=
  byteNat x 6 * 2 ^ 40 + byteNat x 7 * 2 ^ 32 + byteNat x 8 * 2 ^ 24 + byteNat x 9 * 2 ^ 16 + byteNat x 10 * 2 ^ 8 + byteNat x 11

/-- `y` is `x` with the clock reference `c` written as base and extension, every other bit as it was (R65). -/
def ClockSet (x y : Packet) (c : Nat) : Prop :=
  y.length = x.length ∧ clockBits y / 2 ^ 15 = c / 300 ∧ clockBits y % 2 ^ 9 = c % 300
    ∧ clockBits y / 2 ^ 9 % 64 = clockBits x / 2 ^ 9 % 64 ∧ ∀ i, i < 6 ∨ 12 ≤ i → y[i]? = x[i]?

/-! ### Frames -/

/-- The selected feed is LOST or ABSENT and the other feed is LOCKED (R36). -/
abbrev State.ChangeoverLinks (s : State) : Prop :=
  ((s.framer s.re.selected.port).link = .lost ∨ (s.framer s.re.selected.port).link = .absent)
    ∧ (s.framer s.re.selected.other.port).link = .locked

/-- The revertive policy is on, the preferred feed is not selected, and it is LOCKED (R37). -/
abbrev State.RevertLinks (s : State) : Prop :=
  s.re.revertive = true ∧ s.re.preferred ≠ s.re.selected ∧ (s.framer s.re.preferred.port).link = .locked

/-- After a change of the link state of port `p`, the Release Engine is as it was, but that at A and B the pending changeover
and revert and the revert timer are judged by the link states as they stand then (R6, R36, R37): the timer starts from zero where its
condition becomes true, and stops, a pending revert withdrawn, where it is false. -/
def State.LinkJudged (s t : State) (p : Port) : Prop :=
  t.re =
    match p with
    | .l => s.re
    | .a | .b =>
      { s.re with
        changeoverPending := decide t.ChangeoverLinks
        revertTimer := if t.RevertLinks then s.re.revertTimer.or (some s.tu.time) else none
        revertPending := decide t.RevertLinks && s.re.revertPending }

/-- What begins at port T in a slot whose packet reaches the gate as `p`: STOPPED lets nothing begin, STARTING ends at an anchor,
and the requested state decides the rest (R44, R163, R164). -/
def State.beginsAtT (s : State) (anchor : Bool) (p : Packet) : Option Packet :=
  if s.su.effective = .stopped ∨ (s.su.effective = .starting ∧ anchor = false) then none
  else
    match s.su.requested with
    | .run => some p
    | .hold => some nullPacket
    | .stop => none

/-- `t` is `s` with slot `x` of feed `f` taken into release, RELEASED-pending-free and counted "released", and with the gate, the
Release Engine and the Departure Timer as the start of the slot has left them (R10, R18). -/
def State.Entered (s t : State) (f : Feed) (x : Slot) : Prop :=
  t = { s with
        ds := { s.ds with
                rings := s.ds.rings.set f
                  { s.ring f with
                    slots := modifyFirst (fun y => y.isHeld && y.index == x.index)
                      (fun y => { y with state := .releasedPendingFree }) (s.ring f).slots }
                accounts := s.ds.accounts.set f
                  { s.ds.accounts.get f with released := (s.ds.accounts.get f).released + 1 } }
        re := t.re, dt := t.dt, su := t.su, mu := t.mu }

/-- Between two states `packet` has gone through stage 6, beginning at port T as the effective state has it, a null packet being
tallied by a running trace, and slot `index` of feed `f`, from which it was released, has become EMPTY (R10, R44, R182). -/
def State.Begun (s t : State) (f : Feed) (index : Nat) (packet : Packet) : Prop :=
  ∃ begins : Option Packet,
    begins = (match s.su.effective with
              | .running => some packet
              | .holding => some nullPacket
              | .starting => none
              | .stopped => none)
    ∧ t = { s with
            ds := { s.ds with
                    rings := s.ds.rings.set f
                      { s.ring f with slots := removeFirst (fun y => !y.isHeld && y.index == index) (s.ring f).slots } }
            su := { s.su with
                    trace := { s.su.trace with
                               nullSlots := countIf
                                 (decide (s.su.trace.state = .running) && begins.any fun p => pidOf p == 8191)
                                 s.su.trace.nullSlots } }
            lines := { s.lines with portT := begins } }

/-- A counter counted up `n` times, each time kept at 4,294,967,295: as it was where `n` is 0 (10.3). -/
def countTimes (c n : Nat) : Nat := if n = 0 then c else countBy c n

/-- The record may be the candidate as far as its own fields go: ON_TIME, not yet in release, and after the last-started number where
there is one (R26). -/
def GroupRecord.MayStart (r : GroupRecord) (lastStarted : Option Cadence) : Prop :=
  r.verdict = .onTime ∧ r.state ≠ .releasing ∧ ∀ n, lastStarted = some n → 1 ≤ (r.number - n).toNat ∧ (r.number - n).toNat ≤ 32767

/-- `r`, of the table of feed `f`, governs the release of number `n`: the selected feed's record of that number, or the other feed's
where the selected feed has none that may start (R26, R28). -/
def State.Governs (s : State) (n : Cadence) (f : Feed) (r : GroupRecord) : Prop :=
  s.record? f n = some r ∧ r.MayStart s.re.lastStarted
    ∧ (f ≠ s.re.selected → ∀ x, s.record? s.re.selected n = some x → ¬ x.MayStart s.re.lastStarted)

/-- The candidate's release time is `T` (R26). -/
def State.StartsAt (s : State) (T : SiteTime) : Prop :=
  ∃ n f r, s.re.candidate = some n ∧ s.Governs n f r ∧ r.release = T

/-- A group start is due: SFN mode, an output rate set, and site time at or after the candidate's release time (R27, R49). -/
def State.StartDue (s : State) : Prop :=
  s.re.mode = .sfn ∧ s.dt.rate ≠ none ∧ ∃ T, s.StartsAt T ∧ 0 ≤ siteDiff s.tu.time T

/-- A group start is late: it is due, and site time is after the candidate's release time (R27). -/
def State.StartLate (s : State) : Prop :=
  s.re.mode = .sfn ∧ s.dt.rate ≠ none ∧ ∃ T, s.StartsAt T ∧ 0 < siteDiff s.tu.time T

/-- The second in progress is a holdover second, and its last local tick has passed (R79). -/
def TimingUnit.HoldSecondOver (t : TimingUnit) : Prop :=
  (t.ref = .holdover ∨ t.ref = .expired ∨ t.ref = .qualifying .holdover ∨ t.ref = .qualifying .expired)
    ∧ ∃ h, t.holdSecond = some h ∧ h.length ≤ h.passed

/-- An event of the block is due at this instant, the end of a holdover second and a warm restart apart: the conditions of R4, R5,
R27, R29, R30, R37, R54, R71, R121 and R165. No other command is an event of the block. -/
def State.EventDue (s : State) : Instr → Prop
  | .groupStart => s.StartDue
  | .departureSlot => ¬ s.StartDue ∧ ∃ t, s.dt.nextSlot = some t ∧ 0 ≤ siteDiff s.tu.time t
  | .passedGroup f n => ¬ s.StartDue ∧ ∃ r, s.record? f n = some r ∧ r.MayStart s.re.lastStarted ∧ 0 ≤ siteDiff s.tu.time r.release
      ∧ (s.dt.rate = none ∨ (s.re.candidate ≠ some n ∧ ∀ g, s.re.releasing = some g → g.number ≠ n))
  | .staleRecord f n => ∃ r, s.record? f n = some r ∧ r.state ≠ .releasing
      ∧ 0 ≤ siteDiff s.tu.time (addTicks (addTicks r.arrival 27000000) 27000000)
      ∧ ∀ g, s.re.releasing = some g → g.number ≠ n
  | .forcedReturn c => ((s.channel c).state = .out ∨ (s.channel c).state = .returning)
      ∧ ∃ a o, (s.channel c).active = some a ∧ a.out = some o ∧ o.forced = false ∧ 0 ≤ siteDiff s.tu.time o.forcedAt
  | .revertTimerExpiry => s.re.revertPending = false
      ∧ ∃ τ, s.re.revertTimer = some τ ∧ (s.re.revertHold * 27000000 : Nat) ≤ siteDiff s.tu.time τ
  | .bridgingTimerExpiry p => (s.framer p).link = .bridging
      ∧ ∃ τ, (s.framer p).timer = some τ ∧ (τ.interval : Int) ≤ siteDiff s.tu.time τ.start
  | .absenceTimerExpiry p => ((s.framer p).link = .searching ∨ (s.framer p).link = .lost) ∧ (s.framer p).signal = false
      ∧ ∃ τ, (s.framer p).timer = some τ ∧ (τ.interval : Int) ≤ siteDiff s.tu.time τ.start
  | .missingPulseTimerExpiry => s.tu.missingTimer = true
      ∧ ∃ p, s.tu.lastPulse = some p ∧ 29700000 ≤ s.tu.localTicks - p.localTick
  | .scan => s.su.scanPeriod ≤ s.tu.localTicks - s.su.scanStart
  | _ => False

/-- Position 0 of every group is its cadence packet (R12), and an open group's next position lies beyond it (R13). -/
def State.CadenceLeads (s : State) : Prop :=
  ∀ f, (∀ x ∈ (s.ring f).slots, x.position = some 0 → pidOf x.packet = pidCadence)
    ∧ (∀ g, s.fi.openGroups.get f = some g → 1 ≤ g.next)

/-- A group start is due for the candidate `n`, whose copy in the table of `f` is `r`, with a rate set, and no changeover and no
revert pending (R27, R28). Other records may be passed by it (R29). -/
def State.StartsGroup (s : State) (n : Cadence) (f : Feed) (r : GroupRecord) : Prop :=
  s.lines.resetHeld = false ∧ s.re.mode = .sfn ∧ s.dt.rate.isSome = true ∧ s.re.candidate = some n
    ∧ s.chosenCopy n = some (f, r) ∧ atOrAfter s.tu.time r.release = true ∧ 1 < r.length ∧ s.CadenceLeads
    ∧ s.re.changeoverPending = false ∧ s.re.revertPending = false ∧ ∀ g, s.re.releasing = some g → g.number ≠ n

/-- `x`, of either table, is passed at the start of group `n`, whose release time is `T`: eligible, of another number, its own release
time not after `T`, and not of the number of a group being released (R29). -/
def State.PassedAt (s : State) (n : Cadence) (T : SiteTime) (x : GroupRecord) : Prop :=
  x.MayStart s.re.lastStarted ∧ x.number ≠ n ∧ 0 ≤ siteDiff T x.release ∧ ∀ g, s.re.releasing = some g → g.number ≠ x.number

/-- A departure slot is due, and begins at `start`, the site time now, at or after the next slot time held; the pacer stands as
`p`, and in MFN mode a rate newly set makes the slot an anchor (R53, R54, R57, R58). -/
def State.SlotDue (s : State) (start : SiteTime) (p : Pacer) : Prop :=
  s.lines.resetHeld = false ∧ start = s.tu.time ∧ (∃ t, s.dt.nextSlot = some t ∧ atOrAfter start t = true)
    ∧ s.groupStartDue = false
    ∧ (if s.re.mode = .mfn ∧ s.dt.reanchor = true then s.dt.rate.map pacerFor else s.dt.pacer) = some p

/-- Between two states the record of `n` has left the table of `f`: its HELD slots are EMPTY and counted "discarded", and a feed
whose open group it was has none (R17). -/
def State.RecordLeft (s t : State) (f : Feed) (n : Cadence) : Prop :=
  t.ds =
    { rings := s.ds.rings.set f
        { s.ring f with slots := (s.ring f).slots.filter fun x => !(x.isHeld && x.group == some n) }
      tables := s.ds.tables.set f (removeFirst (fun r => r.number == n) (s.table f))
      accounts := s.ds.accounts.set f
        { s.ds.accounts.get f with
          discarded := (s.ds.accounts.get f).discarded
            + BitVec.ofNat 48 ((s.ring f).slots.countP fun x => x.isHeld && x.group == some n) } }
    ∧ t.fi =
      { s.fi with
        openGroups :=
          if (s.fi.openGroups.get f).map (·.number) = some n then s.fi.openGroups.set f none else s.fi.openGroups }

/-- Raising the flag queues a notice: it is clear and unmasked (R171). -/
abbrev Supervision.Notifies (u : Supervision) (f : EventFlag) : Prop :=
  u.flags.getLsbD f.number = false ∧ u.unmasked.getLsbD f.number = true

/-- A flag has been raised between two states of the Supervision Unit: it is set, every other flag is as it was, ALARM
follows, the trace takes its trigger, and the notice, where there is one, is counted (R170, R171, R181). -/
def Supervision.Raised (before after : Supervision) (f : EventFlag) : Prop :=
  after = { before with
            flags := before.flags ||| f.bit
            alarm := alarmLevel (before.flags ||| f.bit) before.unmasked
            trace := before.trace.trigger f
            counters := { before.counters with
                          noticesQueued := if before.Notifies f then count before.counters.noticesQueued
                                           else before.counters.noticesQueued } }

/-- What the Management Unit has made of the flag `f` raised at site time `now` in a Supervision Unit that stood as `u`: where the flag
was clear and unmasked, the notice of the unit address, the flag's number and `now` has joined the tail of a queue below 64, and is
dropped and counted at a full one or while a restart is pending; else nothing (R171, R191, R192, R196). -/
def Management.Noticed (before after : Management) (u : Supervision) (f : EventFlag) (now : SiteTime) : Prop :=
  (¬ u.Notifies f → after = before)
    ∧ (u.Notifies f → before.restartPending = false → before.queue.length < 64 → after =
        { before with queue := before.queue ++ [⟨.notice, noticePacket before.unitAddress f.number now⟩] })
    ∧ (u.Notifies f → before.restartPending = true ∨ 64 ≤ before.queue.length → after =
        { before with counters := { before.counters with noticesDropped := count before.counters.noticesDropped } })

/-- In `t` a flag has just been raised, Supervision and Management Unit having stood as `u` and `m` before, and neither has changed in
any other way (R170, R171, R192). -/
def State.RaisedFrom (t : State) (u : Supervision) (m : Management) (f : EventFlag) : Prop :=
  u.Raised t.su f ∧ m.Noticed t.mu u f t.tu.time

/-- A flag has been raised between two states of the machine, at the site time of the second, and Supervision and Management Unit
have changed in no other way (R170, R171, R192). -/
def State.FlagRaised (s t : State) (f : EventFlag) : Prop := t.RaisedFrom s.su s.mu f

/-- Between two states the gate has been brought into line at the start of a slot: RUNNING and HOLDING follow the requested state,
STARTING where the slot is an anchor; a change is counted and raises GATE_CHANGED (R163, R164). -/
def State.GateBrought (s t : State) (anchor : Bool) : Prop :=
  t.su.effective =
      (if s.su.effective = .stopped ∨ (s.su.effective = .starting ∧ anchor = false) then s.su.effective
       else match s.su.requested with | .run => .running | .hold => .holding | .stop => .stopped)
    ∧ (t.su.effective = s.su.effective → t.su = s.su ∧ t.mu = s.mu)
    ∧ (t.su.effective ≠ s.su.effective →
        t.RaisedFrom
          { s.su with
            effective := t.su.effective
            counters := { s.su.counters with gateChanges := count s.su.counters.gateChanges } } s.mu .gateChanged)

/-- The framer of port `p` has become `x`, a change of link state, and the Release Engine has judged it; no other framer and no
open group has changed. -/
def State.FramerBecame (s t : State) (p : Port) (x : Framer) : Prop :=
  t.fi = { s.fi with framers := s.fi.framers.set p x } ∧ s.LinkJudged t p

/-- The load in progress has failed for a reason: its pages given back in order, its record FREE, the context CLOSED, a write
in progress of no effect, the outcome recorded and counted (R139). -/
def ClipController.LoadFailed (before after : ClipController) (reason : LoadOutcome) : Prop :=
  after = { before with
            freeList := before.freeList ++ (before.record before.load.record).pages
            directory := setAt before.directory before.load.record .freed
            load := .closed
            transfer := Transfer.voidWrite before.transfer
            lastOutcome := some (reason, (before.record before.load.record).id)
            counters := { before.counters with loadsFailed := count before.counters.loadsFailed } }

/-- A channel has armed a cue of the clip in record `i` (R113, R133): its use count has risen by one, and the directory and the free
list are otherwise as they were. -/
def ClipController.Held (before after : ClipController) (i : Fin 64) : Prop :=
  after = { before with directory := after.directory, prefetch := after.prefetch, transfer := after.transfer }
    ∧ after.record i = { before.record i with use := (before.record i).use + 1 }
    ∧ ∀ j, j ≠ i → after.record j = before.record j

/-- The channel has let its clip go and entered NETWORK, its configuration, last primary PTS and list standing, and the arming test
has followed (R113, R114, R119): where no clip of the list's head is READY in `m` the list is whole and nothing is armed; where one
is, the head is armed. -/
def Channel.Rearmed (before after : Channel) (m : ClipController) : Prop :=
  after = { before with
            state := after.state, list := after.list, active := after.active, subst := after.subst, counters := after.counters }
    ∧ ((∀ q, before.list.head? = some q → ∀ i, (m.record i).id = q.clip → (m.record i).state ≠ .ready) →
        after.state = .network ∧ after.list = before.list ∧ after.active = none)
    ∧ (∀ q rest, before.list = q :: rest → (m.findReady q.clip).isSome = true →
        after.state = .armed ∧ after.list = rest ∧ after.active = some q.armed)

/-- Between two states the armed cue `a` of channel `c` has been MISSED, the channel standing as `heard` after step 1 of R105 (R114,
R115): counted, CUE_MISSED raised, and the channel disarmed, which is counted: the clip let go, the prefetch queues emptied, and the
arming test made. No other channel changes. -/
def State.ArmedCueMissed (s t : State) (c : Fin 4) (heard : Channel) (a : ActiveSplice) : Prop :=
  t = { s with sc := { s.sc with channels := t.sc.channels }, cm := t.cm, su := t.su, mu := t.mu }
    ∧ s.FlagRaised t .cueMissed ∧ (∀ d, d ≠ c → t.channel d = s.channel d) ∧ heard.Rearmed (t.channel c) s.cm
    ∧ (t.channel c).counters =
        { heard.counters with missed := count heard.counters.missed, disarms := count heard.counters.disarms }
    ∧ (∀ j, (getAt t.cm.prefetch (componentIndex c j)).queue = [])
    ∧ ((t.channel c).state = .network → ∀ i, s.cm.find a.clip = some i → (s.cm.record i).state = .ready →
        t.cm.record i = { s.cm.record i with use := (s.cm.record i).use - 1 })

/-- The load in progress has failed and CLIP_LOAD_FAILED has been raised (R139). -/
def State.LoadFailed (s t : State) (reason : LoadOutcome) : Prop :=
  s.cm.LoadFailed t.cm reason ∧ s.FlagRaised t .clipLoadFailed

end Sys2Proof.Machine
end

