-- ==== Sys2Proof/WellFormed.lean ====
section
/-! DEFINITION. Which commands could stand in front of the block: every parameter fits the bytes it is carried in
(11.6), a taken packet is 188 bytes with a good sync byte (R1, R2). -/

namespace Sys2Proof

/-- A 188-byte packet with a good sync byte (R2). -/
def Packet.wellFormed (p : Packet) : Bool :=
  p.length == 188 && p.head? == some 0x47#8

/-- The number fits `k` bytes. -/
def fits (k n : Nat) : Bool :=
  n < 256 ^ k

/-- An optional number, if present, fits `k` bytes. -/
def fitsOpt (k : Nat) : Option Nat → Bool
  | none => true
  | some n => fits k n

/-- A signed number fits `k` bytes, two's complement. -/
def fitsSigned (k : Nat) (i : Int) : Bool :=
  -(256 ^ k : Nat) ≤ 2 * i && 2 * i < (256 ^ k : Nat)

def TimingParam.wellFormed (t : TimingParam) : Bool :=
  fits 1 t.choice

/-- Every parameter of the command fits the bytes 11.6 carries it in. -/
def Command.wellFormed : Command → Bool
  | .modeSet m => fits 1 m
  | .feedPolicySet p =>
    fits 1 p.preferred && fits 1 p.policy && fits 4 p.hold && fits 4 p.bridgingA && fits 4 p.bridgingB
      && fits 4 p.bridgingL
  | .rateSet r t => fits 4 r && t.wellFormed
  | .offsetSet o t => fitsSigned 4 o && t.wellFormed
  | .delaySet d => fits 4 d
  | .timeSet _ => true
  | .holdoverSet l => fits 4 l
  | .streamWrite p =>
    fits 2 p.inPid && fits 1 p.action && fitsOpt 2 p.outPid && fits 1 p.managed && fits 1 p.carrier && fits 1 p.check
  | .streamErase p => fits 2 p
  | .streamRead c p => fits 1 c && fits 2 p
  | .defaultActionSet a => fits 1 a
  | .channelSet p =>
    fits 1 p.channel && fits 1 p.enabled && fits 2 p.cuePid && fits 1 p.pids.length && p.pids.all (fits 2)
  | .channelDisable c => fits 1 c
  | .channelRead k c => fits 1 k && fits 1 c
  | .cueMatchWrite p => fits 1 p.index && fits 1 p.enabled && fits 1 p.avail && fits 1 p.mask && fits 2 p.clip
  | .cuePost p =>
    fits 1 p.channel && fits 4 p.event && fits 1 p.kind && fitsOpt 5 p.time && fitsOpt 4 p.duration && fits 1 p.avail
  | .cueCancel p => fits 1 p.channel && fits 1 p.choice && fits 4 p.event
  | .clipLoadBegin p =>
    fits 2 p.clip && fits 4 p.count && fits 4 p.duration && fits 1 p.pids.length && p.pids.all (fits 2)
  | .clipLoadEnd c => fits 2 c
  | .clipLoadAbandon => true
  | .clipDelete c => fits 2 c
  | .clipDirectoryRead k c => fits 1 k && fits 2 c
  | .gateRequest v => fits 1 v
  | .diagActionWrite c a => fits 1 c && fits 1 a
  | .scanSet n => fits 2 n
  | .eventReadClear fs => fits 4 fs
  | .eventMaskWrite ms => ms.length == 26 && ms.all (fits 1)
  | .snapshotTake => true
  | .snapshotRead => true
  | .traceConfigure p =>
    fits 1 p.quantities.length && p.quantities.all (fits 1) && fits 1 p.divider && fits 1 p.mode && fits 1 p.start
      && fits 1 p.flag
  | .traceStart => true
  | .traceStop => true
  | .traceRead f n => fits 2 f && fits 2 n
  | .countersRead s c => fits 1 s && fits 1 c
  | .statusRead => true
  | .addressWrite a b => fits 2 a && fits 2 b
  | .authorityWrite m => fits 1 m
  | .restart => true

/-- The management command a row of the second group carries; none for an event of the part. -/
def Instr.command? : Instr → Option Command
  | .powerOn _ => none
  | .signalAppears _ => none
  | .signalDisappears _ => none
  | .lockAcquired _ => none
  | .syncError _ => none
  | .bridgingTimerExpiry _ => none
  | .absenceTimerExpiry _ => none
  | .packetTaken _ _ _ => none
  | .groupStart => none
  | .passedGroup _ _ => none
  | .staleRecord _ _ => none
  | .departureSlot => none
  | .forcedReturn _ => none
  | .revertTimerExpiry => none
  | .refTimeMessage _ => none
  | .ppsPulse => none
  | .missingPulseTimerExpiry => none
  | .ref10MHzLost => none
  | .holdoverSecondEnd => none
  | .scan => none
  | .memorySlot => none
  | .prefetchReadComplete => none
  | .loadWriteComplete => none
  | .monitorPacketSent => none
  | .warmRestart => none
  | .modeSet _ m => some (.modeSet m)
  | .feedPolicySet _ p => some (.feedPolicySet p)
  | .rateSet _ r t => some (.rateSet r t)
  | .offsetSet _ o t => some (.offsetSet o t)
  | .delaySet _ d => some (.delaySet d)
  | .timeSet _ sec => some (.timeSet sec)
  | .holdoverSet _ l => some (.holdoverSet l)
  | .streamWrite _ p => some (.streamWrite p)
  | .streamErase _ pid => some (.streamErase pid)
  | .streamRead _ c pid => some (.streamRead c pid)
  | .defaultActionSet _ a => some (.defaultActionSet a)
  | .channelSet _ p => some (.channelSet p)
  | .channelDisable _ c => some (.channelDisable c)
  | .channelRead _ k c => some (.channelRead k c)
  | .cueMatchWrite _ p => some (.cueMatchWrite p)
  | .cuePost _ p => some (.cuePost p)
  | .cueCancel _ p => some (.cueCancel p)
  | .clipLoadBegin _ p => some (.clipLoadBegin p)
  | .clipLoadEnd _ c => some (.clipLoadEnd c)
  | .clipLoadAbandon _ => some .clipLoadAbandon
  | .clipDelete _ c => some (.clipDelete c)
  | .clipDirectoryRead _ k c => some (.clipDirectoryRead k c)
  | .gateRequest _ v => some (.gateRequest v)
  | .diagActionWrite _ c a => some (.diagActionWrite c a)
  | .scanSet _ n => some (.scanSet n)
  | .eventReadClear _ fs => some (.eventReadClear fs)
  | .eventMaskWrite _ ms => some (.eventMaskWrite ms)
  | .snapshotTake _ => some .snapshotTake
  | .snapshotRead _ => some .snapshotRead
  | .traceConfigure _ p => some (.traceConfigure p)
  | .traceStart _ => some .traceStart
  | .traceStop _ => some .traceStop
  | .traceRead _ f n => some (.traceRead f n)
  | .countersRead _ s c => some (.countersRead s c)
  | .statusRead _ => some .statusRead
  | .addressWrite _ a b => some (.addressWrite a b)
  | .authorityWrite _ m => some (.authorityWrite m)
  | .restart _ => some .restart
  | .unknownCommand _ _ => none
  | .ref10MHzRestored => none
  | .resetAsserted => none

/-- The header a row of the second group carries, UNKNOWN_COMMAND among them; none for an event of the part. -/
def Instr.header? : Instr → Option Header
  | .powerOn _ => none
  | .signalAppears _ => none
  | .signalDisappears _ => none
  | .lockAcquired _ => none
  | .syncError _ => none
  | .bridgingTimerExpiry _ => none
  | .absenceTimerExpiry _ => none
  | .packetTaken _ _ _ => none
  | .groupStart => none
  | .passedGroup _ _ => none
  | .staleRecord _ _ => none
  | .departureSlot => none
  | .forcedReturn _ => none
  | .revertTimerExpiry => none
  | .refTimeMessage _ => none
  | .ppsPulse => none
  | .missingPulseTimerExpiry => none
  | .ref10MHzLost => none
  | .holdoverSecondEnd => none
  | .scan => none
  | .memorySlot => none
  | .prefetchReadComplete => none
  | .loadWriteComplete => none
  | .monitorPacketSent => none
  | .warmRestart => none
  | .modeSet h _ => some h
  | .feedPolicySet h _ => some h
  | .rateSet h _ _ => some h
  | .offsetSet h _ _ => some h
  | .delaySet h _ => some h
  | .timeSet h _ => some h
  | .holdoverSet h _ => some h
  | .streamWrite h _ => some h
  | .streamErase h _ => some h
  | .streamRead h _ _ => some h
  | .defaultActionSet h _ => some h
  | .channelSet h _ => some h
  | .channelDisable h _ => some h
  | .channelRead h _ _ => some h
  | .cueMatchWrite h _ => some h
  | .cuePost h _ => some h
  | .cueCancel h _ => some h
  | .clipLoadBegin h _ => some h
  | .clipLoadEnd h _ => some h
  | .clipLoadAbandon h => some h
  | .clipDelete h _ => some h
  | .clipDirectoryRead h _ _ => some h
  | .gateRequest h _ => some h
  | .diagActionWrite h _ _ => some h
  | .scanSet h _ => some h
  | .eventReadClear h _ => some h
  | .eventMaskWrite h _ => some h
  | .snapshotTake h => some h
  | .snapshotRead h => some h
  | .traceConfigure h _ => some h
  | .traceStart h => some h
  | .traceStop h => some h
  | .traceRead h _ _ => some h
  | .countersRead h _ _ => some h
  | .statusRead h => some h
  | .addressWrite h _ _ => some h
  | .authorityWrite h _ => some h
  | .restart h => some h
  | .unknownCommand h _ => some h
  | .ref10MHzRestored => none
  | .resetAsserted => none

/-- A command that can reach the block: the checks of `Command.wellFormed`, of a taken packet, and a code
outside the catalogue for UNKNOWN_COMMAND. -/
def Instr.wellFormed (i : Instr) : Bool :=
  match i with
  | .packetTaken _ _ p => p.wellFormed
  | .unknownCommand _ code => (classOfCode code).isNone
  | _ => (i.command?.map Command.wellFormed).getD true

end Sys2Proof
end

