-- ==== Sys2Proof/Certificates/Slice0/Obligations.lean ====
section
/-! DEFINITION. The statements for the provers. Each docstring names the rules of spec/ it formalises; where a clause rests on
the model's own choice it names the log entry. -/

open Sys2Proof Sys2Proof.Machine

/-! ### The block as a whole -/

/-- A step runs the command at the front of the queue with the queue's rest. -/
def Obligations.StepRunsFrontCommand : Prop :=
  ∀ (c : Instr) (rest : List Instr) (s : State),
    step { s with pending := c :: rest } = exec c { s with pending := rest }

/-- On an empty queue the block idles (the model's choice, log entries 2, 3, 4 and 7): held in RESET nothing happens; while an
event of the block is due, one that is due comes to the queue's front, only the model's count of coincidences changing beside;
else one tick of site time passes, 26,999,999 being followed by 0 of the next second, with one local tick where the local
oscillator makes the site ticks (R68). Due are: the end of a holdover second, alone (R79); else a warm restart whose reply has
left port M, alone (R196); else every event whose condition its rule states holds (State.EventDue: R4, R5, R27, R29, R30, R37,
R54, R71, R121, R165), a group start being due before the slot and the passed groups of its instant (R57), and no other command.
-/
def Obligations.IdleBlock : Prop :=
  (∀ s : State, s.pending = [] →
    (s.lines.resetHeld = true → step s = .next s)
    ∧ (s.lines.resetHeld = false → s.dueEvents ≠ [] →
        ∃ e ∈ s.dueEvents, ∃ n, step s = .next { s with pending := [e], model := { s.model with races := n } })
    ∧ (s.lines.resetHeld = false → s.dueEvents = [] → s.tu.ref.inHoldover = false → ∃ k n : Nat,
        (s.tu.ref ≠ .locked → k = 1 ∧ n = s.model.lockedTicks)
        ∧ step s = .next
            { s with
              tu := { s.tu with
                      localTicks := s.tu.localTicks + k
                      time := if s.tu.time.tick + 1 < 27000000 then { s.tu.time with tick := s.tu.time.tick + 1 }
                              else { sec := s.tu.time.sec + 1, tick := 0 } }
              model := { s.model with lockedTicks := n } }))
  ∧ (∀ (s : State) (restart : Prop), restart = (s.mu.restartPending = true ∧ s.mu.queue = []) →
    (s.tu.HoldSecondOver → s.dueEvents = [.holdoverSecondEnd])
    ∧ (¬ s.tu.HoldSecondOver → restart → s.dueEvents = [.warmRestart])
    ∧ (¬ s.tu.HoldSecondOver → ¬ restart → ∀ e, e ∈ s.dueEvents ↔ s.EventDue e))

/-- POWER_ON puts every block into the state its chapter gives for power-on (R23, R24, R48, R67, R87, R103, R130, R148, R167,
R177, R179, R183, R197), every counter at 0 (R8, R47, R66, R86, R129, R147, R160, R185), the unit address read from the pins and
the input lines as they stand. What no rule gives of the state is named in log entry 21. -/
def Obligations.PowerOnState : Prop :=
  ∀ (pins : BitVec 12) (s : State), ∃ t, exec (.powerOn pins) s = .next t
    ∧ t.pending = s.pending ∧ t.lines.resetHeld = false ∧ t.tu.freq10 = s.tu.freq10
    -- R23, R24
    ∧ (∀ p, t.framer p =
        { link := if (s.framer p).signal then .searching else .absent, signal := (s.framer p).signal, badSync := 0,
          timer := none, bridgingSetting := 0, counters := ⟨0, 0, 0, 0, 0, 0, 0, 0, 0, 0, 0, 0, 0⟩ })
    ∧ (∀ f, t.fi.openGroups.get f = none ∧ (t.ring f).slots = [] ∧ (t.ring f).writeIndex = 0 ∧ t.table f = []
        ∧ t.ds.accounts.get f = ⟨0#48, 0#48, 0#48, 0#48⟩)
    -- R45, R48
    ∧ t.re.mode = .sfn ∧ t.re.selected = .a ∧ t.re.preferred = .a ∧ t.re.revertive = true ∧ t.re.revertHold = 10
    ∧ t.re.revertTimer = none ∧ t.re.changeoverPending = false ∧ t.re.revertPending = false ∧ t.re.candidate = none
    ∧ t.re.releasing = none ∧ t.re.lastStarted = none ∧ t.re.lastGroupStart = none ∧ (∀ f, t.re.readIndex.get f = 0)
    ∧ t.re.lastReleasedArrival = none
    -- R47, R66, R86, R147, R177, R185
    ∧ t.re.counters = .zero ∧ t.dt.counters = .zero ∧ t.tu.counters = .zero ∧ t.cm.counters = .zero ∧ t.su.counters = .zero
    -- R67
    ∧ t.dt.rate = none ∧ t.dt.pacer = none ∧ t.dt.nextSlot = none ∧ t.dt.offset = 0 ∧ t.dt.nominalDelay = 2700000
    ∧ t.dt.pendingRate = none ∧ t.dt.pendingOffset = none
    -- R87
    ∧ t.tu.time = ⟨0#32, 0⟩ ∧ t.tu.ref = .free ∧ t.tu.run = 0 ∧ t.tu.lastPulse = none ∧ t.tu.missingTimer = false
    ∧ t.tu.lastTimeValue = none ∧ t.tu.history = [] ∧ t.tu.hold.base = 27000000 ∧ t.tu.hold.remainder = 0
    ∧ t.tu.hold.acc = 0 ∧ t.tu.elapsed = 0 ∧ t.tu.limit = 3600 ∧ t.tu.lastPhase = 0 ∧ t.tu.lastStep = 0
    ∧ t.tu.lockedSincePowerOn = false
    -- R103
    ∧ t.st.entries = [] ∧ t.st.default = .pass ∧ t.st.defaultPasses = 0 ∧ t.st.defaultDrops = 0 ∧ t.st.shadowedDrops = 0
    -- R129, R130, R160
    ∧ (∀ c, (t.channel c).counters = .zero ∧ (t.channel c).state = .disabled ∧ (t.channel c).enabled = false ∧ (t.channel c).cuePid = none
        ∧ (t.channel c).pids = [] ∧ (t.channel c).list = [] ∧ (t.channel c).active = none ∧ (t.channel c).lastPts = none)
    ∧ (∀ i, getAt t.sc.cueMatches i = { enabled := false, avail := 0, mask := 0#4, clip := none })
    -- R148
    ∧ (∀ i, (t.cm.record i).state = .free) ∧ t.cm.freeList = List.range 8192 ∧ t.cm.load.state = .closed
    ∧ t.cm.load.buffer = [] ∧ (∀ i, getAt t.cm.prefetch i = { queue := [], pointer := none, exhausted := true })
    ∧ t.cm.roundRobin = 0 ∧ t.cm.lastOutcome = none
    -- R167, R177, R179, R183
    ∧ t.su.mgmt = .run ∧ t.su.noRate = true ∧ t.su.timing = true ∧ (∀ i, getAt t.su.factors i = .continue)
    ∧ t.su.requested = .stop ∧ t.su.effective = .stopped
    ∧ t.su.actions = #v[.continue, .continue, .hold, .continue, .stop, .hold, .continue, .continue, .continue]
    ∧ (∀ i, getAt t.su.conditions i = false) ∧ t.su.scanSetting = 0 ∧ t.su.scanNumber = 0#32
    ∧ t.su.scanStart = t.tu.localTicks ∧ t.su.scanPeriod = 2700000 ∧ t.su.seenOverflow = false ∧ t.su.seenUnderrun = false
    ∧ t.su.seenContinuity = false ∧ t.su.flags = 0#26 ∧ t.su.unmasked = 0#26 ∧ t.su.alarm = false
    ∧ t.su.snapshot = .empty ∧ t.su.trace.config = none ∧ t.su.trace.samples = [] ∧ t.su.trace.samplesTaken = 0#32
    ∧ t.su.trace.state = .stopped
    -- R197
    ∧ t.mu.unitAddress = pins ∧ t.mu.group0 = 0 ∧ t.mu.group1 = 0 ∧ t.mu.authority = 0b011111#6 ∧ t.mu.queue = []
    ∧ t.mu.continuity = 0#4 ∧ t.mu.restartPending = false ∧ t.mu.counters = ⟨0, 0, 0, 0, 0, 0, 0, 0, 0⟩

/-- RESET_ASSERTED: ports T and M send nothing and ALARM is released (R197), everything else standing; and while RESET is held a
command changes nothing, but for RESET itself and the levels of the signal lines and of REF 10 MHz, which are followed (the
model's choice, log entry 7). -/
def Obligations.ResetSilencesTheBlock : Prop :=
  ∀ s : State,
    exec .resetAsserted s = .next
      { s with
        lines := { resetHeld := true, portT := none, portM := none }
        su := { s.su with alarm := false } }
    ∧ (s.lines.resetHeld = true → ∀ c : Instr,
        (∀ pins, c ≠ .powerOn pins) → c ≠ .resetAsserted → (∀ p, c ≠ .signalAppears p) → (∀ p, c ≠ .signalDisappears p) →
        c ≠ .ref10MHzLost → c ≠ .ref10MHzRestored → exec c s = .next s)
    ∧ (s.lines.resetHeld = true →
        (∀ p, exec (.signalAppears p) s = .next (s.modifyFramer p fun x => { x with signal := true }))
        ∧ (∀ p, exec (.signalDisappears p) s = .next (s.modifyFramer p fun x => { x with signal := false }))
        ∧ exec .ref10MHzLost s = .next { s with tu := { s.tu with freq10 := false } }
        ∧ exec .ref10MHzRestored s = .next { s with tu := { s.tu with freq10 := true } })

/-- The machine right after reset meets the laws of the device that every step keeps. -/
def Obligations.ResetMeetsTheLaws : Prop :=
  State.reset.Balanced ∧ State.reset.StoreLawful ∧ State.reset.QueueBounded ∧ State.reset.AlarmFollows
    ∧ State.reset.TimeInRange ∧ State.reset.st.Consistent ∧ State.reset.CueListsLawful ∧ State.reset.cm.PagesAccounted
    ∧ State.reset.cm.StoresCanonical ∧ State.reset.CadenceLeads

/-- WARM_RESTART, once the RESTART reply has left port M (R196), puts every block into the state its chapter gives: R23, R24, R48,
R67, R87, R103, R105, R130, R148, R177, R179 and R183, with the counters of every block but the Timing Unit at 0 (R47, R66, R147,
R177, R185, R196) and the pages of the ended load, then those of each DELETE_PENDING record in index order, at the free list's end
(R148). A gate that enters STARTING at the restart is counted and raises GATE_CHANGED after that, its notice, where unmasked,
joining the emptied queue (the model's order, log entry 38). The run of bad sync bytes is then 0 (the model's choice, log entry
21). Before the reply has left it does nothing (log entry 6). -/
def Obligations.WarmRestartState : Prop :=
  ∀ s : State, s.lines.resetHeld = false →
    (s.mu.restartPending = false ∨ s.mu.queue ≠ [] → exec .warmRestart s = .next s)
    ∧ (s.mu.restartPending = true → s.mu.queue = [] → ∃ t, exec .warmRestart s = .next t
      -- R87, and the frame
      ∧ t = { s with fi := t.fi, ds := t.ds, re := t.re, dt := t.dt, st := t.st, sc := t.sc, cm := t.cm, su := t.su, mu := t.mu }
      -- R23, R24
      ∧ (∀ p, t.framer p =
          { link := if (s.framer p).signal then .searching else .absent, signal := (s.framer p).signal, badSync := 0,
            timer := none, bridgingSetting := (s.framer p).bridgingSetting,
            counters := ⟨0, 0, 0, 0, 0, 0, 0, 0, 0, 0, 0, 0, 0⟩ })
      ∧ (∀ f, t.fi.openGroups.get f = none ∧ (t.ring f).slots = [] ∧ (t.ring f).writeIndex = 0 ∧ t.table f = []
          ∧ t.ds.accounts.get f = ⟨0#48, 0#48, 0#48, 0#48⟩)
      -- R48
      ∧ t.re.mode = s.re.mode ∧ t.re.selected = s.re.preferred ∧ t.re.preferred = s.re.preferred
      ∧ t.re.revertive = s.re.revertive ∧ t.re.revertHold = s.re.revertHold ∧ t.re.revertTimer = none
      ∧ t.re.changeoverPending = false ∧ t.re.revertPending = false ∧ t.re.candidate = none ∧ t.re.releasing = none
      ∧ t.re.lastStarted = none ∧ t.re.lastGroupStart = none ∧ (∀ f, t.re.readIndex.get f = 0)
      ∧ t.re.lastReleasedArrival = none
      -- R47, R66, R147, R196
      ∧ t.re.counters = .zero ∧ t.dt.counters = .zero ∧ t.cm.counters = .zero ∧ t.mu.counters = .zero
      -- R67
      ∧ t.dt.rate = s.dt.rate ∧ t.dt.offset = s.dt.offset ∧ t.dt.nominalDelay = s.dt.nominalDelay
      ∧ t.dt.pendingRate = none ∧ t.dt.pendingOffset = none
      ∧ (s.re.mode = .sfn → t.dt.nextSlot = none)
      ∧ (∀ r, s.re.mode = .mfn → s.dt.rate = some r → t.dt.nextSlot = some s.tu.time ∧ t.dt.pacer = some (pacerFor r))
      -- R103
      ∧ t.st = { entries := s.st.entries.map fun e =>
                   { e with lastIn := none, lastOut := none, released := 0, dropped := 0, errors := 0 }
                 default := s.st.default, defaultPasses := 0, defaultDrops := 0, shadowedDrops := 0 }
      -- R130
      ∧ t.sc.cueMatches = s.sc.cueMatches
      ∧ (∀ c, (t.channel c).enabled = (s.channel c).enabled ∧ (t.channel c).cuePid = (s.channel c).cuePid
          ∧ (t.channel c).pids = (s.channel c).pids ∧ (t.channel c).counters = ChannelCounters.zero
          ∧ (t.channel c).lastPts = none
          ∧ ((s.channel c).state = .disabled → (t.channel c).state = .disabled)
          ∧ ((s.channel c).state ≠ .disabled →
              (t.channel c).state = .network ∧ (t.channel c).list = [] ∧ (t.channel c).active = none
              ∧ ∀ k, getAt (t.channel c).subst k = .returned))
      -- R148
      ∧ t.cm.load.state = .closed ∧ t.cm.load.buffer = [] ∧ t.cm.dram = s.cm.dram
      ∧ (∀ i, (s.cm.record i).state = .ready → (i ≠ s.cm.load.record ∨ s.cm.load.state = .closed) →
          t.cm.record i = { s.cm.record i with use := 0 })
      ∧ (∀ i, (s.cm.record i).state = .deletePending → (t.cm.record i).state = .free)
      ∧ (s.cm.load.state ≠ .closed → (t.cm.record s.cm.load.record).state = .free
          ∧ t.cm.lastOutcome = some (.restart, (s.cm.record s.cm.load.record).id))
      ∧ (∀ i, getAt t.cm.prefetch i = { queue := [], pointer := none, exhausted := true })
      ∧ t.cm.roundRobin = s.cm.roundRobin
      ∧ t.cm.freeList = s.cm.freeList
          ++ (if s.cm.load.state = .closed then [] else (s.cm.record s.cm.load.record).pages)
          ++ (List.finRange 64).flatMap (fun i =>
               if (s.cm.record i).state = .deletePending ∧ (i ≠ s.cm.load.record ∨ s.cm.load.state = .closed)
               then (s.cm.record i).pages else [])
      -- R177, R185
      ∧ t.su.mgmt = s.su.mgmt ∧ t.su.actions = s.su.actions ∧ t.su.scanSetting = s.su.scanSetting
      ∧ t.su.scanNumber = s.su.scanNumber ∧ t.su.noRate = s.su.noRate ∧ t.su.timing = s.su.timing
      ∧ (∀ i, getAt t.su.factors i = .continue ∧ getAt t.su.conditions i = false) ∧ t.su.seenOverflow = false
      ∧ t.su.seenUnderrun = false ∧ t.su.seenContinuity = false ∧ t.su.scanStart = s.tu.localTicks
      ∧ t.su.unmasked = s.su.unmasked
      ∧ t.su.requested = (if s.su.mgmt = .stop ∨ s.su.noRate = true ∨ s.su.timing = true then .stop else s.su.mgmt)
      ∧ (t.su.requested = .stop → t.su.effective = .stopped ∧ t.su.flags = 0#26 ∧ t.su.alarm = false
          ∧ t.su.counters = .zero)
      ∧ (t.su.requested ≠ .stop → t.su.effective = .starting ∧ t.su.flags = EventFlag.gateChanged.bit
          ∧ t.su.alarm = s.su.unmasked.getLsbD 23
          ∧ t.su.counters = { SupervisionCounters.zero with
                              gateChanges := 1, noticesQueued := if s.su.unmasked.getLsbD 23 then 1 else 0 })
      -- R179, R183
      ∧ t.su.snapshot = s.su.snapshot ∧ t.su.trace.config = s.su.trace.config ∧ t.su.trace.samples = s.su.trace.samples
      ∧ t.su.trace.samplesTaken = s.su.trace.samplesTaken ∧ t.su.trace.state = .stopped
      -- R196
      ∧ t.mu.unitAddress = s.mu.unitAddress ∧ t.mu.group0 = s.mu.group0 ∧ t.mu.group1 = s.mu.group1
      ∧ t.mu.authority = s.mu.authority ∧ t.mu.continuity = 0#4 ∧ t.mu.restartPending = false
      ∧ (t.su.requested = .stop ∨ s.su.unmasked.getLsbD 23 = false → t.mu.queue = [])
      ∧ (t.su.requested ≠ .stop → s.su.unmasked.getLsbD 23 = true →
          t.mu.queue = [⟨.notice, noticePacket s.mu.unitAddress 23 s.tu.time⟩]))

/-! ### Feed Intake and the Delay Store (chapter 1) -/

/-- Signal appearing at a port: ABSENT becomes SEARCHING (R1); in SEARCHING and LOST the absence timer stops (R5); in LOCKED and
BRIDGING the level alone is followed. Signal that is there already changes nothing (log entry 6). Signal disappearing from a port:
a LOCKED framer enters BRIDGING at once and its bridging timer starts (R2), which on port L fails an open load with PORT_LOSS
(R22); in SEARCHING and LOST the absence timer starts (R5). With LOCKED the run of bad sync bytes ends at 0 (the model's choice,
log entry 21). The interval is the one the setting gives: 0 is 200 ms, 1 to 200 the setting times 10 ms, above 200 2,000 ms, in
ticks (R3). -/
def Obligations.SignalLevel : Prop :=
  (∀ (s : State) (p : Port), s.lines.resetHeld = false →
    ((s.framer p).signal = true → exec (.signalAppears p) s = .next s)
    ∧ ((s.framer p).signal = false →
        ((s.framer p).link = .absent → ∃ t : State, exec (.signalAppears p) s = .next t
          ∧ t = { s with fi := t.fi, re := t.re }
          ∧ s.FramerBecame t p { s.framer p with signal := true, link := .searching })
        ∧ ((s.framer p).link = .searching ∨ (s.framer p).link = .lost →
            exec (.signalAppears p) s = .next (s.modifyFramer p fun x => { x with signal := true, timer := none }))
        ∧ ((s.framer p).link = .locked ∨ (s.framer p).link = .bridging →
            exec (.signalAppears p) s = .next (s.modifyFramer p fun x => { x with signal := true }))))
  ∧ (∀ (s : State) (p : Port) (started : Timer), s.lines.resetHeld = false → (s.framer p).signal = true →
    started = { start := s.tu.time
                interval := (if (s.framer p).bridgingSetting = 0 then 5400000
                             else if (s.framer p).bridgingSetting ≤ 200 then (s.framer p).bridgingSetting * 270000
                             else 54000000) } →
    ((s.framer p).link = .locked → ∃ t : State, exec (.signalDisappears p) s = .next t
      ∧ t = { s with fi := t.fi, re := t.re, cm := t.cm, su := t.su, mu := t.mu }
      ∧ s.FramerBecame t p { s.framer p with signal := false, link := .bridging, badSync := 0, timer := some started }
      ∧ (p ≠ .l ∨ s.cm.load.state ≠ .opened → t.cm = s.cm ∧ t.su = s.su ∧ t.mu = s.mu)
      ∧ (p = .l → s.cm.load.state = .opened → s.LoadFailed t .portLoss))
    ∧ ((s.framer p).link = .searching ∨ (s.framer p).link = .lost →
        exec (.signalDisappears p) s = .next (s.modifyFramer p fun x => { x with signal := false, timer := some started }))
    ∧ ((s.framer p).link = .bridging ∨ (s.framer p).link = .absent →
        exec (.signalDisappears p) s = .next (s.modifyFramer p fun x => { x with signal := false })))

/-- LOCK_ACQUIRED: SEARCHING and LOST become LOCKED, ports A and B raising their flag (R1, R6); BRIDGING becomes LOCKED with one
more outage and no flag (R4). The run of bad sync bytes begins at 0 and no timer runs. It shows that the port carries signal (log
entry 8), and in LOCKED and ABSENT, where no hunt for sync is on, it changes nothing (log entry 6). SYNC_ERROR in LOCKED: counted,
and the third bad sync byte in a row makes the framer enter BRIDGING with its timer started (R2, R3), which on port L fails an
open load (R22), the run of bad sync bytes then being 0 again (the model's choice, log entry 21). A changeover is due while the
selected feed is LOST or ABSENT and the other LOCKED (R36), and the revert timer runs while the policy is on and the preferred
feed is LOCKED and not selected (R37); each change of a feed's link state makes the changeover pending or not by the first, and by
the second starts the timer from zero or stops it, a pending revert withdrawn. -/
def Obligations.LockAndSyncError : Prop :=
  (∀ (s : State) (p : Port), s.lines.resetHeld = false →
    ((s.framer p).link = .searching ∨ (s.framer p).link = .lost → ∃ t : State, exec (.lockAcquired p) s = .next t
      ∧ t = { s with fi := t.fi, re := t.re, su := t.su, mu := t.mu }
      ∧ s.FramerBecame t p { s.framer p with link := .locked, signal := true, badSync := 0, timer := none }
      ∧ (p = .a → s.FlagRaised t .feedALocked) ∧ (p = .b → s.FlagRaised t .feedBLocked)
      ∧ (p = .l → t.su = s.su ∧ t.mu = s.mu))
    ∧ ((s.framer p).link = .bridging → ∃ t : State, exec (.lockAcquired p) s = .next t
      ∧ t = { s with fi := t.fi, re := t.re }
      ∧ s.FramerBecame t p
          { s.framer p with
            link := .locked, signal := true, badSync := 0, timer := none
            counters := { (s.framer p).counters with outages := count (s.framer p).counters.outages } })
    ∧ ((s.framer p).link = .locked ∨ (s.framer p).link = .absent → exec (.lockAcquired p) s = .next s))
  ∧ (∀ (s : State) (p : Port) (k : IntakeCounters), s.lines.resetHeld = false → (s.framer p).link = .locked →
    k = { (s.framer p).counters with syncErrors := count (s.framer p).counters.syncErrors } →
    ((s.framer p).badSync < 2 →
      exec (.syncError p) s = .next (s.modifyFramer p fun x => { x with badSync := x.badSync + 1, counters := k }))
    ∧ (2 ≤ (s.framer p).badSync → ∃ t : State, exec (.syncError p) s = .next t
      ∧ t = { s with fi := t.fi, re := t.re, cm := t.cm, su := t.su, mu := t.mu }
      ∧ s.FramerBecame t p
          { s.framer p with
            link := .bridging, badSync := 0, counters := k
            timer := some ⟨s.tu.time, bridgingInterval (s.framer p).bridgingSetting⟩ }
      ∧ (p ≠ .l ∨ s.cm.load.state ≠ .opened → t.cm = s.cm ∧ t.su = s.su ∧ t.mu = s.mu)
      ∧ (p = .l → s.cm.load.state = .opened → s.LoadFailed t .portLoss)))
  ∧ (∀ s : State, (s.changeoverDue = true ↔ s.ChangeoverLinks) ∧ (s.revertCondition = true ↔ s.RevertLinks)
    ∧ (∀ t p x, p ≠ .l → s.FramerBecame t p x →
      (t.re.changeoverPending = true ↔ t.ChangeoverLinks)
      ∧ (t.RevertLinks → s.re.revertTimer = none → t.re.revertTimer = some s.tu.time)
      ∧ (t.RevertLinks → ∀ τ, s.re.revertTimer = some τ → t.re.revertTimer = some τ ∧ t.re.revertPending = s.re.revertPending)
      ∧ (¬ t.RevertLinks → t.re.revertTimer = none ∧ t.re.revertPending = false)))

/-- The bridging timer's expiry: a BRIDGING framer whose timer has run its interval of site time enters LOST, counted and flagged,
the absence timer starting where signal is absent (R4, R5); before that the event does nothing (log entry 6). The absence timer's
expiry: a SEARCHING or LOST framer without signal, whose timer has run its interval, enters ABSENT and raises no flag (R5); with
signal there, or before the interval has passed, nothing happens (log entry 6). -/
def Obligations.FramerTimersExpire : Prop :=
  (∀ (s : State) (p : Port) (τ : Timer), s.lines.resetHeld = false → (s.framer p).timer = some τ →
    ((s.framer p).link = .bridging → (τ.interval : Int) ≤ siteDiff s.tu.time τ.start →
      ∃ t : State, exec (.bridgingTimerExpiry p) s = .next t
        ∧ t = { s with fi := t.fi, re := t.re, su := t.su, mu := t.mu }
        ∧ s.FramerBecame t p
            { s.framer p with
              link := .lost
              timer := if (s.framer p).signal then none
                       else some ⟨s.tu.time, bridgingInterval (s.framer p).bridgingSetting⟩
              counters := { (s.framer p).counters with losses := count (s.framer p).counters.losses } }
        ∧ s.FlagRaised t (match p with | .a => .feedALost | .b => .feedBLost | .l => .portLLost))
    ∧ (siteDiff s.tu.time τ.start < τ.interval → exec (.bridgingTimerExpiry p) s = .next s))
  ∧ (∀ (s : State) (p : Port) (τ : Timer), s.lines.resetHeld = false → (s.framer p).timer = some τ →
    ((s.framer p).link = .searching ∨ (s.framer p).link = .lost → (s.framer p).signal = false →
      (τ.interval : Int) ≤ siteDiff s.tu.time τ.start →
      ∃ t : State, exec (.absenceTimerExpiry p) s = .next t ∧ t = { s with fi := t.fi, re := t.re }
        ∧ s.FramerBecame t p { s.framer p with link := .absent, timer := none })
    ∧ ((s.framer p).signal = true ∨ siteDiff s.tu.time τ.start < τ.interval → exec (.absenceTimerExpiry p) s = .next s))

/-- A packet of a feed in MFN mode: stamped with site time as it stood when its sync byte was received (R7, R69; told by its age,
log entry 29), taken into account, the standby ring trimmed of what is more than 2 × Dn older, and the packet stored HELD at the
write index with its arrival time and no group, the index advancing from 16,383 to 0; or, where that slot is not EMPTY, dropped
with STORE_OVERFLOW and counted (R2, R8, R9, R18, R19, R20). -/
def Obligations.MfnPacketStored : Prop :=
  ∀ (s : State) (f : Feed) (sync : SyncByte) (arrival : SiteTime) (packet : Packet) (old : Slot → Bool) (kept : List Slot)
    (gone : BitVec 48) (x : Framer) (a : Accounting),
    arrival = addTicks s.tu.time (-((sync.ago : Int) + if sync.beforeStep then s.tu.lastStep else 0)) →
    s.lines.resetHeld = false → (s.framer f.port).link = .locked → s.re.mode = .mfn →
    old = (fun x => decide (f ≠ s.re.selected) && x.isHeld && decide (2 * (s.dt.nominalDelay : Int) < siteDiff arrival x.arrival)) →
    kept = (s.ring f).slots.filter (fun x => !old x) → gone = BitVec.ofNat 48 ((s.ring f).slots.countP old) →
    x = { s.framer f.port with
          badSync := 0
          counters := { (s.framer f.port).counters with
                        taken := count (s.framer f.port).counters.taken
                        transportErrors := countIf (transportError packet) (s.framer f.port).counters.transportErrors } } →
    a = { s.ds.accounts.get f with taken := (s.ds.accounts.get f).taken + 1 } →
    ((∀ x ∈ kept, x.index ≠ (s.ring f).writeIndex) → ∃ t : State, exec (.packetTaken f.port sync packet) s = .next t
      ∧ t = { s with fi := t.fi, ds := t.ds }
      ∧ t.fi = { s.fi with framers := s.fi.framers.set f.port x }
      ∧ t.ds = { s.ds with
                 rings := s.ds.rings.set f
                   { slots := kept ++ [⟨(s.ring f).writeIndex, .held, packet, arrival, none, none⟩]
                     writeIndex := ((s.ring f).writeIndex + 1) % 16384 }
                 accounts := s.ds.accounts.set f { a with discarded := a.discarded + gone } })
    ∧ ((∃ x ∈ kept, x.index = (s.ring f).writeIndex) → ∃ t : State, exec (.packetTaken f.port sync packet) s = .next t
      ∧ t = { s with fi := t.fi, ds := t.ds, su := t.su, mu := t.mu }
      ∧ t.fi = { s.fi with
                 framers := s.fi.framers.set f.port
                              { x with counters := { x.counters with overflowDrops := count x.counters.overflowDrops } } }
      ∧ t.ds = { s.ds with
                 rings := s.ds.rings.set f { s.ring f with slots := kept }
                 accounts := s.ds.accounts.set f { a with discarded := a.discarded + gone, dropped := a.dropped + 1 } }
      ∧ t.RaisedFrom { s.su with seenOverflow := true } s.mu .storeOverflow)

/-- A packet of a feed in SFN mode that is not on PID 8181. With no open group it is an orphan: dropped and counted. With one it
takes the next position: stored HELD under the group's number and that position, the record counting it; the last position
completes a FILLING record and leaves no open group (R9, R14, R18). The stamp is read back from site time (the model's reading,
log entry 29). Late starts then due take place at once (R27). -/
def Obligations.GroupFilling : Prop :=
  ∀ (s : State) (f : Feed) (sync : SyncByte) (arrival : SiteTime) (packet : Packet) (x : Framer) (a : Accounting),
    arrival = s.arrivalStamp sync → s.lines.resetHeld = false → (s.framer f.port).link = .locked → s.re.mode = .sfn →
    pidOf packet ≠ 8181 →
    x = { s.framer f.port with
          badSync := 0
          counters := { (s.framer f.port).counters with
                        taken := count (s.framer f.port).counters.taken
                        transportErrors := countIf (transportError packet) (s.framer f.port).counters.transportErrors } } →
    a = { s.ds.accounts.get f with taken := (s.ds.accounts.get f).taken + 1 } →
    (s.fi.openGroups.get f = none →
      exec (.packetTaken f.port sync packet) s = .next (State.settle
        { s with
          fi := { s.fi with
                  framers := s.fi.framers.set f.port
                               { x with counters := { x.counters with orphans := count x.counters.orphans } } }
          ds := { s.ds with accounts := s.ds.accounts.set f { a with dropped := a.dropped + 1 } } }))
    ∧ (∀ g r, s.fi.openGroups.get f = some g → s.record? f g.number = some r → s.positionPassed g.number g.next = false →
        (∀ x ∈ (s.ring f).slots, x.index ≠ (s.ring f).writeIndex) →
        exec (.packetTaken f.port sync packet) s = .next (State.settle
          { s with
            fi := { framers := s.fi.framers.set f.port x
                    openGroups := s.fi.openGroups.set f
                      (if r.length ≤ g.next + 1 then none else some { g with next := g.next + 1 }) }
            ds := { rings := s.ds.rings.set f
                      { slots := (s.ring f).slots ++
                          [⟨(s.ring f).writeIndex, .held, packet, arrival, some g.number, some g.next⟩]
                        writeIndex := ((s.ring f).writeIndex + 1) % 16384 }
                    tables := s.ds.tables.set f (modifyFirst (fun x => x.number == g.number)
                      (fun x => { x with
                                  received := x.received + 1
                                  firstSlot := some (x.firstSlot.getD (s.ring f).writeIndex)
                                  state := if r.length ≤ g.next + 1 ∧ x.state = .filling then .complete else x.state })
                      (s.table f))
                    accounts := s.ds.accounts.set f a } }))

/-- A position that cannot be stored still counts as assigned (R14, R16), the last one leaving no open group and a FILLING record
COMPLETE (R14): with the ring full the packet is dropped as an overflow and the position recorded as missing (R9); where the
Release Engine has passed the position the packet is dropped as a late-position packet, which leaves the record's received and
missing counts as they were (log entry 14). Either is dropped in the accounting (R18). A position is passed where it lies below
the next position of the group that is being released, its chosen record or its twin (R16). Late starts then due take place at
once (R27). -/
def Obligations.PositionsLost : Prop :=
  (∀ (s : State) (f : Feed) (sync : SyncByte) (packet : Packet) (x : Framer) (g : OpenGroup) (r : GroupRecord) (last : Bool)
    (opened : PerFeed (Option OpenGroup)) (a : PerFeed Accounting),
    s.lines.resetHeld = false → (s.framer f.port).link = .locked → s.re.mode = .sfn → pidOf packet ≠ 8181 →
    x = { s.framer f.port with
          badSync := 0
          counters := { (s.framer f.port).counters with
                        taken := count (s.framer f.port).counters.taken
                        transportErrors := countIf (transportError packet) (s.framer f.port).counters.transportErrors } } →
    s.fi.openGroups.get f = some g → s.record? f g.number = some r → last = decide (r.length ≤ g.next + 1) →
    opened = s.fi.openGroups.set f (if last then none else some { g with next := g.next + 1 }) →
    a = s.ds.accounts.set f
      { s.ds.accounts.get f with
        taken := (s.ds.accounts.get f).taken + 1, dropped := (s.ds.accounts.get f).dropped + 1 } →
    (s.positionPassed g.number g.next = true → exec (.packetTaken f.port sync packet) s = .next (State.settle
      { s with
        fi := { framers := s.fi.framers.set f.port
                  { x with counters := { x.counters with latePositions := count x.counters.latePositions } }
                openGroups := opened }
        ds := { s.ds with
                accounts := a
                tables := s.ds.tables.set f (modifyFirst (fun y => y.number == g.number)
                  (fun y => { y with state := if last ∧ y.state = .filling then .complete else y.state }) (s.table f)) } }))
    ∧ (s.positionPassed g.number g.next = false → (∃ x ∈ (s.ring f).slots, x.index = (s.ring f).writeIndex) →
      ∃ u : State, exec (.packetTaken f.port sync packet) s = .next u.settle
        ∧ u = { s with
                fi := { framers := s.fi.framers.set f.port
                          { x with counters := { x.counters with overflowDrops := count x.counters.overflowDrops } }
                        openGroups := opened }
                ds := { s.ds with
                        accounts := a
                        tables := s.ds.tables.set f (modifyFirst (fun y => y.number == g.number)
                          (fun y => { y with
                                      missing := y.missing + 1
                                      state := if last ∧ y.state = .filling then .complete else y.state })
                          (s.table f)) }
                su := u.su, mu := u.mu }
        ∧ u.RaisedFrom { s.su with seenOverflow := true } s.mu .storeOverflow))
  ∧ (∀ (s : State) (n : Cadence) (k : Nat), s.positionPassed n k = true ↔
    ∃ g r, s.re.releasing = some g ∧ g.number = n ∧ s.record? g.feed n = some r ∧ k < r.nextPosition)

/-- A valid cadence packet of a feed, step by step (R12). The feed's open group is closed: the positions never assigned are
missing, a FILLING record becomes SHORT, and a short group is counted (R15). A record of its number that is RELEASING refuses the
packet, which is dropped and counted; one in any other state is DISCARDED, its HELD slots counted (R17). A table that then holds
64 records drops the packet with STORE_OVERFLOW. Else a record joins the table last, with T the stamp plus the site offset and the
verdict of the window (R11, R13, R25, R50), becomes the feed's open group and holds the packet as position 0, or counts that
position as missing where the ring is full (R9), or drops the packet where the Release Engine has passed the position (R16), the
received and missing counts then untouched (the model's reading, log entry 14). A verdict other than ON_TIME is counted and
flagged. The stamp is read back from site time (log entry 29). The candidate is determined again (R26), one whose start is due
staying in the choice (the model's reading, log entry 20). Where a candidate appears with T before the next slot of the group
being released, that release ends at once by overlap (R34; at that instant, log entry 13): its remaining positions counted,
GROUP_OVERLAP raised, the record and its twin gone, their HELD slots EMPTY and counted (R17, R33), no further slot, the candidate
determined again, the gate brought into line (R164). Where there was a candidate before, or nothing is being released, or T is not
before that slot, nothing ends. -/
def Obligations.CadenceOpensGroup : Prop :=
  (∀ (s : State) (f : Feed) (sync : SyncByte) (arrival : SiteTime) (packet : Packet) (c : CadenceFields) (T : SiteTime)
      (v : Verdict) (x : Framer) (shut rest : List GroupRecord) (gone : Slot → Bool) (kept : List Slot) (a : Accounting)
      (passed full lost : Bool) (new : GroupRecord),
    arrival = s.arrivalStamp sync → s.lines.resetHeld = false → (s.framer f.port).link = .locked → s.re.mode = .sfn →
    pidOf packet = 8181 → cadenceOf packet = some c →
    x = { s.framer f.port with
          badSync := 0
          counters := { (s.framer f.port).counters with
                        taken := count (s.framer f.port).counters.taken
                        transportErrors := countIf (transportError packet) (s.framer f.port).counters.transportErrors
                        shortGroups := countIf (s.fi.openGroups.get f).isSome (s.framer f.port).counters.shortGroups } } →
    shut = (match s.fi.openGroups.get f with
            | none => s.table f
            | some g => modifyFirst (fun y => y.number == g.number)
                (fun y => { y with
                            missing := y.missing + (y.length - g.next)
                            state := if y.state = .filling then .short else y.state })
                (s.table f)) →
    rest = removeFirst (fun y => y.number == c.number) shut →
    gone = (fun y => (s.record? f c.number).isSome && y.isHeld && y.group == some c.number) →
    kept = (s.ring f).slots.filter (fun y => !gone y) →
    a = { s.ds.accounts.get f with
          taken := (s.ds.accounts.get f).taken + 1
          discarded := (s.ds.accounts.get f).discarded + BitVec.ofNat 48 ((s.ring f).slots.countP gone) } →
    T = addTicks c.stamp s.dt.offset →
    v = (if siteDiff T arrival < 0 then .late else if 27000000 < siteDiff T arrival then .early else .onTime) →
    passed = s.positionPassed c.number 0 → full = (!passed && kept.any (fun y => y.index == (s.ring f).writeIndex)) →
    lost = (passed || full) →
    new = { number := c.number, length := c.length, received := if lost then 0 else 1, release := T
            firstSlot := if lost then none else some (s.ring f).writeIndex
            arrival, state := .filling, verdict := v, missing := if full then 1 else 0, nextPosition := 0 } →
    (∀ y, s.record? f c.number = some y → y.state = .releasing → ∃ u : State,
      exec (.packetTaken f.port sync packet) s = .next (u.overlapByAppearing s.re.candidate).settle
      ∧ u = { s with
              fi := { framers := s.fi.framers.set f.port
                        { x with counters := { x.counters with duplicateCadences := count x.counters.duplicateCadences } }
                      openGroups := s.fi.openGroups.set f none }
              ds := { s.ds with
                      tables := s.ds.tables.set f shut
                      accounts := s.ds.accounts.set f
                        { s.ds.accounts.get f with
                          taken := (s.ds.accounts.get f).taken + 1, dropped := (s.ds.accounts.get f).dropped + 1 } }
              re := { s.re with candidate := State.determineCandidate { u with re := s.re } s.dueCandidate } })
    ∧ ((∀ y, s.record? f c.number = some y → y.state ≠ .releasing) → 64 ≤ rest.length → ∃ u : State,
      exec (.packetTaken f.port sync packet) s = .next (u.overlapByAppearing s.re.candidate).settle
      ∧ u = { s with
              fi := { framers := s.fi.framers.set f.port
                        { x with counters := { x.counters with groupTableFull := count x.counters.groupTableFull } }
                      openGroups := s.fi.openGroups.set f none }
              ds := { rings := s.ds.rings.set f { s.ring f with slots := kept }
                      tables := s.ds.tables.set f rest
                      accounts := s.ds.accounts.set f { a with dropped := a.dropped + 1 } }
              re := { s.re with candidate := State.determineCandidate { u with re := s.re } s.dueCandidate }
              su := u.su, mu := u.mu }
      ∧ u.RaisedFrom { s.su with seenOverflow := true } s.mu .storeOverflow)
    ∧ ((∀ y, s.record? f c.number = some y → y.state ≠ .releasing) → rest.length < 64 →
      (passed = true → ∀ g, s.re.releasing = some g → g.feed ≠ f) → s.NumbersDistinct → ∃ u : State,
      exec (.packetTaken f.port sync packet) s = .next (u.overlapByAppearing s.re.candidate).settle
      ∧ u = { s with
              fi := { framers := s.fi.framers.set f.port
                        { x with
                          counters := { x.counters with
                                        overflowDrops := countIf full x.counters.overflowDrops
                                        latePositions := countIf passed x.counters.latePositions } }
                      openGroups := s.fi.openGroups.set f (some ⟨c.number, 1⟩) }
              ds := { rings := s.ds.rings.set f
                        (if lost then { s.ring f with slots := kept }
                         else { slots := kept ++ [⟨(s.ring f).writeIndex, .held, packet, arrival, some c.number, some 0⟩]
                                writeIndex := ((s.ring f).writeIndex + 1) % 16384 })
                      tables := s.ds.tables.set f (rest ++ [new])
                      accounts := s.ds.accounts.set f (if lost then { a with dropped := a.dropped + 1 } else a) }
              re := { s.re with
                      candidate := State.determineCandidate { u with re := s.re } s.dueCandidate, counters := u.re.counters }
              su := u.su, mu := u.mu }
      ∧ u.re.counters =
          (match v, f with
           | .onTime, _ => s.re.counters
           | .late, .a => { s.re.counters with lateA := count s.re.counters.lateA }
           | .late, .b => { s.re.counters with lateB := count s.re.counters.lateB }
           | .early, .a => { s.re.counters with earlyA := count s.re.counters.earlyA }
           | .early, .b => { s.re.counters with earlyB := count s.re.counters.earlyB })
      ∧ (full = false →
          (v = .onTime → u.su = s.su ∧ u.mu = s.mu) ∧ (v = .late → s.FlagRaised u .groupLate)
          ∧ (v = .early → s.FlagRaised u .groupEarly))
      ∧ (full = true → u.su.seenOverflow = true ∧ u.flagSet .storeOverflow = true
          ∧ (v = .late → u.flagSet .groupLate = true) ∧ (v = .early → u.flagSet .groupEarly = true))))
  ∧ (∀ (u : State) (before : Option Cadence), before ≠ none ∨ u.re.releasing = none → u.overlapByAppearing before = u)
  ∧ (∀ (u : State) (g : Releasing) (r : GroupRecord) (slot T : SiteTime) (gone : Slot → Bool), u.re.releasing = some g →
    u.record? g.feed g.number = some r → u.dt.nextSlot = some slot → u.candidateTime = some T →
    gone = (fun y => y.isHeld && y.group == some g.number) →
    (isBefore T slot = false → u.overlapByAppearing none = u)
    ∧ (isBefore T slot = true → ∃ w, u.overlapByAppearing none = w
      ∧ w = { u with fi := w.fi, ds := w.ds, re := w.re, dt := w.dt, st := w.st, su := w.su, mu := w.mu }
      ∧ w.re = { u.re with
                 releasing := none, candidate := w.determineCandidate u.dueCandidate
                 counters := { u.re.counters with
                               overlapPositions := countBy u.re.counters.overlapPositions (r.length - r.nextPosition) } }
      ∧ w.dt = { u.dt with nextSlot := none }
      ∧ (∀ h, w.ring h = { u.ring h with slots := (u.ring h).slots.filter fun y => !gone y }
          ∧ w.table h = removeFirst (fun y => y.number == g.number) (u.table h)
          ∧ w.ds.accounts.get h =
              { u.ds.accounts.get h with
                discarded := (u.ds.accounts.get h).discarded + BitVec.ofNat 48 ((u.ring h).slots.countP gone) }
          ∧ w.fi.openGroups.get h =
              (if (u.fi.openGroups.get h).map (·.number) = some g.number then none else u.fi.openGroups.get h))
      ∧ w.fi.framers = u.fi.framers ∧ w.flagSet .groupOverlap = true ∧ w.su.requested = u.su.requested
      ∧ (u.su.effective = .running ∨ u.su.effective = .holding →
          w.su.effective = match u.su.requested with | .run => .running | .hold => .holding | .stop => .stopped)
      ∧ (u.su.effective = .stopped ∨ u.su.effective = .starting →
          w.su.effective = if u.su.requested = .stop then .stopped else .starting)))

/-- A cadence packet that fails validation is dropped and counted, and closes the feed's open group: the positions never assigned
are missing, a FILLING record becomes SHORT, and a short group is counted (R11, R15, R18). It fails for its transport error flag,
no payload, one below 16 bytes, its CRC, a length outside 16 to 4,096 or a tick of 27,000,000 or more; else its fields are those
of the layout (11.6). With no open group it is dropped and counted alone. Late starts then due take place at once (R27). -/
def Obligations.RejectedCadenceClosesGroup : Prop :=
  (∀ (s : State) (f : Feed) (sync : SyncByte) (packet : Packet) (x : Framer) (a : PerFeed Accounting),
    s.lines.resetHeld = false → (s.framer f.port).link = .locked → s.re.mode = .sfn → pidOf packet = 8181 →
    cadenceOf packet = none →
    x = { s.framer f.port with
          badSync := 0
          counters := { (s.framer f.port).counters with
                        taken := count (s.framer f.port).counters.taken
                        transportErrors := countIf (transportError packet) (s.framer f.port).counters.transportErrors
                        cadenceBad := count (s.framer f.port).counters.cadenceBad } } →
    a = s.ds.accounts.set f
      { s.ds.accounts.get f with
        taken := (s.ds.accounts.get f).taken + 1, dropped := (s.ds.accounts.get f).dropped + 1 } →
    (s.fi.openGroups.get f = none → exec (.packetTaken f.port sync packet) s = .next (State.settle
      { s with fi := { s.fi with framers := s.fi.framers.set f.port x }, ds := { s.ds with accounts := a } }))
    ∧ (∀ g, s.fi.openGroups.get f = some g → exec (.packetTaken f.port sync packet) s = .next (State.settle
      { s with
        fi := { framers := s.fi.framers.set f.port
                  { x with counters := { x.counters with shortGroups := count x.counters.shortGroups } }
                openGroups := s.fi.openGroups.set f none }
        ds := { s.ds with
                tables := s.ds.tables.set f (modifyFirst (fun x => x.number == g.number)
                  (fun x => { x with
                              missing := x.missing + (x.length - g.next)
                              state := if x.state = .filling then .short else x.state })
                  (s.table f))
                accounts := a } })))
  ∧ (∀ (packet pay : Packet) (bad : Prop), pay = payloadOf packet →
    bad = (transportError packet = true ∨ payloadPresent packet = false ∨ pay.length < 16
      ∨ fieldAt pay 12 4 ≠ (crc32 (pay.take 12)).toNat ∨ fieldAt pay 2 2 < 16 ∨ 4096 < fieldAt pay 2 2
      ∨ 27000000 ≤ fieldAt pay 8 4) →
    (bad → cadenceOf packet = none)
    ∧ (¬ bad → cadenceOf packet = some
        { number := BitVec.ofNat 16 (fieldAt pay 0 2), length := fieldAt pay 2 2
          stamp := ⟨BitVec.ofNat 32 (fieldAt pay 4 4), fieldAt pay 8 4⟩ }))

/-- A packet of port L (R21, R135): a component of an OPEN load with room in record and buffer is accepted, at the next stored
position of its component, with the running CRC carried on, a new page taken from the head of the free list where the position
begins one, and the component's first readable PTS kept; one past the declared count is counted as excess; a null packet is
ignored; any other is ignored and counted. The tag of a stored position stands at 256 × page + place (log entry 10), and every
other tag is as it was. -/
def Obligations.PortLPacket : Prop :=
  ∀ (s : State) (sync : SyncByte) (packet : Packet) (x : Framer) (r : ClipRecord),
    s.lines.resetHeld = false → (s.framer .l).link = .locked → pidOf packet ≠ 8180 →
    x = { s.framer .l with
          badSync := 0
          counters := { (s.framer .l).counters with
                        taken := count (s.framer .l).counters.taken
                        transportErrors := countIf (transportError packet) (s.framer .l).counters.transportErrors } } →
    r = s.cm.record s.cm.load.record →
    (s.cm.load.state ≠ .opened ∨ pidOf packet ∉ s.cm.load.map →
      (pidOf packet = 8191 →
        exec (.packetTaken .l sync packet) s = .next (State.settle (s.modifyFramer .l fun _ => x)))
      ∧ (pidOf packet ≠ 8191 →
        exec (.packetTaken .l sync packet) s = .next (State.settle (s.modifyFramer .l fun _ =>
          { x with counters := { x.counters with ignored := count x.counters.ignored } }))))
    ∧ (∀ k, s.cm.load.state = .opened → s.cm.load.map.idxOf? (pidOf packet) = some k →
      (r.declared ≤ r.count →
        exec (.packetTaken .l sync packet) s = .next (State.settle
          { s.modifyFramer .l (fun _ => x) with
            cm := { s.cm with
                    load := { s.cm.load with excess := true }
                    counters := { s.cm.counters with excess := count s.cm.counters.excess } } }))
      ∧ (r.count < r.declared → s.cm.load.buffer.length < 64 →
        ∃ u : State, exec (.packetTaken .l sync packet) s = .next u.settle
          ∧ u = { s with fi := u.fi, cm := u.cm } ∧ u.fi = (s.modifyFramer .l fun _ => x).fi
          ∧ u.cm = { s.cm with
                     freeList := u.cm.freeList, directory := u.cm.directory, load := u.cm.load, tags := u.cm.tags
                     counters := { s.cm.counters with accepted := count s.cm.counters.accepted } }
          ∧ u.cm.freeList = (if r.count % 256 = 0 then s.cm.freeList.drop 1 else s.cm.freeList)
          ∧ u.cm.record s.cm.load.record =
              { r with
                pages := if r.count % 256 = 0 then r.pages ++ s.cm.freeList.take 1 else r.pages
                count := r.count + 1
                firstPts := Vector.ofFn fun j : Fin 4 =>
                  if j.val = k then (getAt r.firstPts j).or (readablePts packet) else getAt r.firstPts j }
          ∧ (∀ i, i ≠ s.cm.load.record → u.cm.record i = s.cm.record i)
          ∧ u.cm.load = { s.cm.load with
                          buffer := s.cm.load.buffer ++ [⟨r.count, packet⟩], crc := packet.foldl crcByte s.cm.load.crc }
          ∧ (∀ a, (u.cm.record s.cm.load.record).placeOf r.count = some a → Memory.read u.cm.tags a = some k)
          ∧ (∀ b, (u.cm.record s.cm.load.record).placeOf r.count ≠ some b → Memory.read u.cm.tags b = Memory.read s.cm.tags b))
      ∧ (r.count < r.declared → 64 ≤ s.cm.load.buffer.length →
        ∃ u : State, exec (.packetTaken .l sync packet) s = .next u.settle
          ∧ u = { s with fi := u.fi, cm := u.cm, su := u.su, mu := u.mu } ∧ u.cm.load = .closed
          ∧ u.cm.record s.cm.load.record = .freed ∧ u.cm.lastOutcome = some (.overrun, r.id)
          ∧ u.cm.counters = { s.cm.counters with loadsFailed := count s.cm.counters.loadsFailed }
          ∧ s.FlagRaised u .clipLoadFailed))

/-! ### Release and changeover (chapter 2), departure timing (chapter 3) -/

/-- A group start of group `n` from feed `f` (R27, R28, R31, R32, R44): the last-started number and the time recorded; the record
RELEASING with position 0 released, so a null packet, in the first slot; skipped numbers counted with CADENCE_MISSING; every older
record gone; a fallback counted, and a late start, which is one after T by site time (the model's reading, log entry 12). Every
other eligible record whose T is not after the candidate's, but for the twin of a group being released, is passed: it is DISCARDED
and counted as the group starts, its HELD slots EMPTY and counted "discarded" (R17, R29). Where none can be due nothing happens
(log entry 6). Late starts take place at once (R27; State.settle, after the command that made them late, log entries 39 and 40):
where site time is not after the candidate's T, or no start can take place, settling changes nothing, and where it is, settling is
that group start, counted as late, with those that are late after it, each with its slot 0 (log entry 43). -/
def Obligations.GroupStart : Prop :=
  ∀ (s : State) (n : Cadence) (f : Feed) (r : GroupRecord) (skipped : Nat),
    skipped = (match s.re.lastStarted with | none => 0 | some m => (n - m - 1).toNat) →
    (s.StartsGroup n f r → ∃ u : State, exec .groupStart s = .next u.settle
      ∧ u.re.lastStarted = some n ∧ u.re.lastGroupStart = some s.tu.time ∧ u.re.releasing = some ⟨f, n⟩
      ∧ u.re.selected = s.re.selected ∧ u.re.mode = .sfn
      ∧ u.record? f n = some { r with state := .releasing, nextPosition := 1 }
      ∧ (∀ g m, cadenceAfter n m = true → u.record? g m = none)
      ∧ u.re.counters.groupsStarted = count s.re.counters.groupsStarted
      ∧ u.re.counters.perGroupFallbacks = countIf (f != s.re.selected) s.re.counters.perGroupFallbacks
      ∧ u.re.counters.skippedNumbers = countBy s.re.counters.skippedNumbers skipped
      ∧ u.re.counters.lateStarts = countIf (isAfter s.tu.time r.release) s.re.counters.lateStarts
      ∧ (skipped ≠ 0 → u.flagSet .cadenceMissing = true)
      ∧ u.lines.portT = s.beginsAtT true nullPacket
      ∧ u.tu = s.tu ∧ u.sc = s.sc ∧ u.cm = s.cm ∧ u.fi.framers = s.fi.framers
      ∧ (∀ passed : GroupRecord → Bool, (∀ x, passed x = true ↔ s.PassedAt n r.release x) →
          u.re.counters.passedGroups =
            countTimes s.re.counters.passedGroups ((s.table .a).countP passed + (s.table .b).countP passed))
      ∧ ((∀ h, ((s.table h).map (·.number)).Nodup) → ∀ g, ∀ x ∈ s.table g, s.PassedAt n r.release x →
          u.record? g x.number = none ∧ ∀ y ∈ (u.ring g).slots, y.isHeld = true → y.group ≠ some x.number))
    ∧ (s.lines.resetHeld = false → s.StartDue → s.re.candidate = some n → s.Governs n f r →
        (∀ h, ((s.table h).map (·.number)).Nodup) → ∀ g, ∀ x ∈ s.table g, s.PassedAt n r.release x →
        ∃ t : State, exec .groupStart s = exec .groupStart t ∧ t = { s with fi := t.fi, ds := t.ds, re := t.re }
          ∧ s.RecordLeft t g x.number
          ∧ t.re = { s.re with counters := { s.re.counters with passedGroups := count s.re.counters.passedGroups } })
    ∧ (s.lines.resetHeld = false → s.re.mode = .mfn ∨ s.dt.rate = none ∨ s.re.candidate = none →
        exec .groupStart s = .next s)
    ∧ (¬ s.StartLate → s.settle = s)
    ∧ (s.lines.resetHeld = false → s.TablesBounded → s.StartLate → exec .groupStart s = .next s.settle)

/-- A group start anchors the pacer and applies the changes due (R52, R56, R62): a pending change tagged m is due when (n − m) mod
65,536 lies in 0..32,767, and is then applied, counted and emptied; the pacer takes q and r from the rate then in force, slot 0
begins at the start, and the next slot q or q + 1 ticks later. -/
def Obligations.GroupStartAnchors : Prop :=
  ∀ (s : State) (n : Cadence) (f : Feed) (r : GroupRecord) (rate : Nat) (offset : Int) (dueR dueO : Bool),
    s.StartsGroup n f r →
    dueR = s.dt.pendingRate.any (fun c => decide ((n - c.cadence).toNat ≤ 32767)) →
    dueO = s.dt.pendingOffset.any (fun c => decide ((n - c.cadence).toNat ≤ 32767)) →
    s.dt.rate.map (fun x => if dueR then (s.dt.pendingRate.map (·.rate)).getD x else x) = some rate →
    offset = (if dueO then (s.dt.pendingOffset.map (·.offset)).getD s.dt.offset else s.dt.offset) →
    ∃ u : State, exec .groupStart s = .next u.settle
      ∧ u.dt =
          { s.dt with
            rate := some rate
            pacer := some (Pacer.advance ⟨rate, 40608000000 / rate, 40608000000 % rate, 0⟩).2
            reanchor := false
            nextSlot := some (addTicks s.tu.time (Pacer.advance ⟨rate, 40608000000 / rate, 40608000000 % rate, 0⟩).1)
            offset
            pendingRate := if dueR then none else s.dt.pendingRate
            pendingOffset := if dueO then none else s.dt.pendingOffset
            counters := { s.dt.counters with
                          slots := count s.dt.counters.slots
                          rateChanges := countIf dueR s.dt.counters.rateChanges
                          offsetChanges := countIf dueO s.dt.counters.offsetChanges } }

/-- A release still in progress at a group start ends by overlap (R27, R33, R34): its remaining positions are counted,
GROUP_OVERLAP raised, and the record and its twin leave their tables (at the group start itself, log entry 13). At a group start a
pending changeover whose condition holds is applied first (R28, R36): the other feed is selected, the change counted, CHANGEOVER
raised and a pending revert withdrawn; with no changeover pending, so is a revert (R37). -/
def Obligations.OverlapAndSelection : Prop :=
  (∀ (s : State) (n : Cadence) (f : Feed) (r : GroupRecord) (g : Releasing) (old : GroupRecord),
    s.StartsGroup n f r → s.re.releasing = some g → s.record? g.feed g.number = some old →
    (∀ h, ((s.table h).map (·.number)).Nodup) →
    ∃ u : State, exec .groupStart s = .next u.settle
      ∧ u.re.counters.overlapPositions = countBy s.re.counters.overlapPositions (old.length - old.nextPosition)
      ∧ u.flagSet .groupOverlap = true ∧ (∀ h, u.record? h g.number = none) ∧ u.re.releasing = some ⟨f, n⟩
      ∧ (∀ h, ∀ x ∈ (u.ring h).slots, x.isHeld = true → x.group ≠ some g.number))
  ∧ (∀ (s : State) (n : Cadence) (f : Feed) (r : GroupRecord),
    State.StartsGroup { s with re := { s.re with changeoverPending := false, revertPending := false } } n f r →
    (s.re.changeoverPending = true → s.changeoverDue = true → ∃ u : State, exec .groupStart s = .next u.settle
      ∧ u.re.selected = s.re.selected.other ∧ u.re.counters.changeovers = count s.re.counters.changeovers
      ∧ u.re.counters.reverts = s.re.counters.reverts ∧ u.re.revertPending = false ∧ u.flagSet .changeover = true
      ∧ u.re.lastStarted = some n)
    ∧ (s.re.changeoverPending = false → s.re.revertPending = true → s.revertCondition = true →
      ∃ u : State, exec .groupStart s = .next u.settle
        ∧ u.re.selected = s.re.preferred ∧ u.re.counters.reverts = count s.re.counters.reverts
        ∧ u.re.counters.changeovers = s.re.counters.changeovers ∧ u.re.revertPending = false ∧ u.re.revertTimer = none
        ∧ u.flagSet .revert = true ∧ u.re.lastStarted = some n))

/-- PASSED_GROUP: an eligible record whose release time is reached, and which is neither the candidate nor the twin of the group
being released, or any eligible one while no output rate has been set, is DISCARDED and counted (R17, R29). STALE_RECORD: a record
that has stood 54,000,000 ticks since its cadence arrival, formed as two additions, is DISCARDED and counted, unless it is being
released or is the twin of the group being released (R17, R30). A record that is not so due, or in the first case not eligible,
stays, and nothing happens (log entry 6). The candidate is then determined again. R26: the number after the last started where an
eligible record bears it; else that of the eligible record of earliest T not yet reached, at equal T the next after the last
started or, without one, the first to arrive and then the lower; else none. Its T is that of the selected feed's eligible record,
else of the other's. One whose start is due stays in the choice after STALE_RECORD, not after PASSED_GROUP (the model's reading,
log entry 20). Arrivals are compared where they lie within half the range of the seconds. -/
def Obligations.PassedAndStaleRecords : Prop :=
  (∀ (s : State) (f : Feed) (n : Cadence) (r : GroupRecord), s.lines.resetHeld = false → s.record? f n = some r →
    (r.verdict = .onTime → r.state ≠ .releasing → (∀ m, s.re.lastStarted = some m → cadenceAfter n m = true) →
      atOrAfter s.tu.time r.release = true → s.groupStartDue = false →
      (s.dt.rate = none ∨ (s.re.candidate ≠ some n ∧ ∀ g, s.re.releasing = some g → g.number ≠ n)) →
      ∃ t : State, exec (.passedGroup f n) s = .next t ∧ t = { s with fi := t.fi, ds := t.ds, re := t.re }
        ∧ s.RecordLeft t f n
        ∧ t.re = { s.re with
                   candidate := State.determineCandidate { t with re := s.re } none
                   counters := { s.re.counters with passedGroups := count s.re.counters.passedGroups } })
    ∧ (r.verdict ≠ .onTime ∨ r.state = .releasing ∨ isBefore s.tu.time r.release = true →
        exec (.passedGroup f n) s = .next s))
  ∧ (∀ (s : State) (f : Feed) (n : Cadence) (r : GroupRecord), s.lines.resetHeld = false → s.record? f n = some r →
    (r.state ≠ .releasing → (∀ g, s.re.releasing = some g → g.number ≠ n) →
      atOrAfter s.tu.time (addTicks (addTicks r.arrival 27000000) 27000000) = true →
      ∃ t : State, exec (.staleRecord f n) s = .next t ∧ t = { s with fi := t.fi, ds := t.ds, re := t.re }
        ∧ s.RecordLeft t f n
        ∧ t.re = { s.re with
                   candidate := State.determineCandidate { t with re := s.re } s.dueCandidate
                   counters := { s.re.counters with staleRecords := count s.re.counters.staleRecords } })
    ∧ (isBefore s.tu.time (addTicks (addTicks r.arrival 27000000) 27000000) = true → exec (.staleRecord f n) s = .next s))
  ∧ (∀ (s : State) (due : Option Cadence) (chosen : Option Cadence) (bears : Cadence → Prop) (open_ : GroupRecord → Prop)
      (within : Prop) (base : Seconds),
    chosen = s.determineCandidate due →
    bears = (fun m => ∃ f, ∃ r ∈ s.table f, r.MayStart s.re.lastStarted ∧ r.number = m) →
    open_ = (fun r => (∃ f, r ∈ s.table f) ∧ r.MayStart s.re.lastStarted
      ∧ (0 < siteDiff r.release s.tu.time ∨ ∃ m f, due = some m ∧ s.Governs m f r)) →
    within = (∀ r, open_ r → r.arrival.tick < 27000000 ∧ (r.arrival.sec - base).toNat < 2 ^ 31) →
    (∀ n, s.re.lastStarted = some n → bears (n + 1) → chosen = some (n + 1))
    ∧ ((∀ n, s.re.lastStarted = some n → ¬ bears (n + 1)) →
      ((∀ r, ¬ open_ r) → chosen = none)
      ∧ ((∃ r, open_ r) → ∃ r, open_ r ∧ chosen = some r.number
        ∧ (∀ x, open_ x → siteDiff r.release s.tu.time ≤ siteDiff x.release s.tu.time)
        ∧ (∀ x, open_ x → siteDiff x.release s.tu.time = siteDiff r.release s.tu.time →
          (∀ n, s.re.lastStarted = some n → (r.number - n).toNat ≤ (x.number - n).toNat)
          ∧ (s.re.lastStarted = none → within → 0 ≤ siteDiff x.arrival r.arrival
            ∧ (siteDiff x.arrival r.arrival = 0 → r.number.toNat ≤ x.number.toNat)))))
    ∧ (∀ m f r, s.chosenCopy m = some (f, r) ↔ s.Governs m f r) ∧ (∀ T, s.candidateTime = some T ↔ s.StartsAt T)
    ∧ (s.groupStartDue = true ↔ s.StartDue)
    ∧ (s.StartDue → s.dueCandidate = s.re.candidate) ∧ (¬ s.StartDue → s.dueCandidate = none))

/-- A slot in MFN mode in which nothing of the selected ring is due carries a null packet, counted as idle; the next slot follows
by the pacer from the start of this one (R38, R53, R54, R58). So does one that finds the slot at the read index EMPTY while the
ring holds packets in other slots, the read index standing (the model's choice, log entry 47). A slot in MFN mode in which the
head of the selected ring is due releases it, the read index advancing from 16,383 to 0 and its arrival becoming the last released
arrival (R10, R18, R38): the gate brought into line and the next slot computed, it goes through the stages with this slot's start
as D and its own arrival as A (R41, R65), what they leave through stage 6, and its slot becomes EMPTY (R44), a packet on PID 8191
that so begins at port T adding to a running trace's tally of null slots, one the feed carried included (the model's reading of
R182, log entry 26), the trace running as the packet begins, a TRACE_START of that very packet included (the model's choice, log
entry 45). A null packet goes out as it came; one on PID 8181 or 8182 ends at stage 1 and goes out as a null packet, nothing else
happening, in either mode; a packet without an entry, under the default action PASS, with no entry that produces its PID and no
enabled channel, passes unchanged (R42, R43, R88, R89). -/
def Obligations.MfnSlot : Prop :=
  (∀ (s : State) (start : SiteTime) (p : Pacer), s.SlotDue start p → s.re.mode = .mfn →
    s.re.changeoverPending = false → s.re.revertPending = false →
    (∀ x ∈ (s.ring s.re.selected).slots, x.isHeld = true → x.index = s.re.readIndex.get s.re.selected →
      isBefore start (addTicks x.arrival s.dt.nominalDelay) = true) →
    ∃ t : State, exec .departureSlot s = .next t
      ∧ t = { s with re := t.re, dt := t.dt, su := t.su, mu := t.mu, lines := t.lines }
      ∧ t.re = { s.re with counters := { s.re.counters with mfnIdleSlots := count s.re.counters.mfnIdleSlots } }
      ∧ t.dt = { s.dt with
                 pacer := some p.advance.2, reanchor := false, nextSlot := some (addTicks start p.advance.1)
                 counters := { s.dt.counters with slots := count s.dt.counters.slots } }
      ∧ t.lines = { s.lines with portT := s.beginsAtT true nullPacket })
  ∧ (∀ (s : State) (start : SiteTime) (p : Pacer) (x : Slot) (pid : Pid) (out : Packet), s.SlotDue start p → s.re.mode = .mfn →
    s.re.changeoverPending = false → s.re.revertPending = false → (s.ring s.re.selected).Lawful →
    x ∈ (s.ring s.re.selected).slots → x.isHeld = true → x.index = s.re.readIndex.get s.re.selected →
    atOrAfter start (addTicks x.arrival s.dt.nominalDelay) = true →
    pid = pidOf x.packet → out = (if pid = 8181 ∨ pid = 8182 then nullPacket else x.packet) →
    (pid = 8181 ∨ pid = 8182 ∨ pid = 8191
      ∨ (usablePid pid = true ∧ (∀ c, (s.channel c).state = .disabled)
          ∧ s.st.entry? pid = none ∧ s.st.default = .pass ∧ s.st.produces pid = false)) →
    ∃ t : State, exec .departureSlot s = .next t
      ∧ t = { s with ds := t.ds, re := t.re, dt := t.dt, st := t.st, su := t.su, mu := t.mu, lines := t.lines }
      ∧ t.re = { s.re with
                 readIndex := s.re.readIndex.set s.re.selected ((x.index + 1) % 16384)
                 lastReleasedArrival := some x.arrival }
      ∧ t.dt = { s.dt with
                 pacer := some p.advance.2, reanchor := false, nextSlot := some (addTicks start p.advance.1)
                 counters := { s.dt.counters with slots := count s.dt.counters.slots } }
      ∧ t.ds = { s.ds with
                 rings := s.ds.rings.set s.re.selected
                   { s.ring s.re.selected with
                     slots := (s.ring s.re.selected).slots.filter fun y => y.index != x.index }
                 accounts := s.ds.accounts.set s.re.selected
                   { s.ds.accounts.get s.re.selected with
                     released := (s.ds.accounts.get s.re.selected).released + 1 } }
      ∧ t.st = { s.st with
                 defaultPasses := if usablePid pid = true then count s.st.defaultPasses else s.st.defaultPasses }
      ∧ t.lines = { s.lines with portT := s.beginsAtT true out })
  ∧ (∀ (s : State) (start : SiteTime) (p : Pacer) (x : Slot), s.SlotDue start p → s.re.mode = .mfn →
    s.re.changeoverPending = false → s.re.revertPending = false → (s.ring s.re.selected).Lawful →
    x ∈ (s.ring s.re.selected).slots → x.isHeld = true → x.index = s.re.readIndex.get s.re.selected →
    atOrAfter start (addTicks x.arrival s.dt.nominalDelay) = true →
    ∃ v : State, s.GateBrought v true ∧ s.Entered v s.re.selected x
      ∧ v.re = { s.re with
                 readIndex := s.re.readIndex.set s.re.selected ((x.index + 1) % 16384)
                 lastReleasedArrival := some x.arrival }
      ∧ v.dt = { s.dt with
                 pacer := some p.advance.2, reanchor := false, nextSlot := some (addTicks start p.advance.1)
                 counters := { s.dt.counters with slots := count s.dt.counters.slots } }
      ∧ ∀ u after, v.stages start x.arrival x.packet = (u, after) →
          ∃ t : State, u.Begun t s.re.selected x.index after ∧ exec .departureSlot s = .next t)
  ∧ (∀ (s : State) (start arrival : SiteTime) (packet : Packet),
    (pidOf packet = 8181 ∨ pidOf packet = 8182 → s.stages start arrival packet = (s, nullPacket))
    ∧ (pidOf packet = 8191 → s.stages start arrival packet = (s, packet)))

/-- A changeover (R36) or, with none pending, a revert (R37) pending in MFN mode is applied at the start of the next slot (R39,
R40): selected feed, counter and flag; of the other ring the HELD slots earlier than the last released arrival minus Dn are
discarded and counted, and the read index is set to the oldest that stays, the one taken into the ring first (the model's reading,
log entry 48), or to the write index. The slot is then filled under R38: where the new head is not yet due, or there is none, it
carries a null packet and is counted as idle; where the head is due it is released in this slot, here a null packet (R42). -/
def Obligations.ChangeoverInMfn : Prop :=
  ∀ (s : State) (start : SiteTime) (p : Pacer) (o : Feed) (revert : Bool) (old : Slot → Bool) (head : Option Slot)
    (discarded : Accounting),
    s.SlotDue start p → s.re.mode = .mfn →
    (s.re.changeoverPending = true ∧ s.changeoverDue = true ∧ o = s.re.selected.other ∧ revert = false)
      ∨ (s.re.changeoverPending = false ∧ s.re.revertPending = true ∧ s.revertCondition = true ∧ o = s.re.preferred
          ∧ revert = true) →
    old = (fun x => x.isHeld && s.re.lastReleasedArrival.any fun t => isBefore x.arrival (addTicks t (-(s.dt.nominalDelay : Int)))) →
    head = (s.ring o).slots.find? (fun x => x.isHeld && !old x) →
    discarded = { s.ds.accounts.get o with
                  discarded := (s.ds.accounts.get o).discarded + BitVec.ofNat 48 ((s.ring o).slots.countP old) } →
    ((∀ x, head = some x → isBefore start (addTicks x.arrival s.dt.nominalDelay) = true) →
      ∃ t : State, exec .departureSlot s = .next t
        ∧ t.re.selected = o ∧ t.re.counters.changeovers = countIf (!revert) s.re.counters.changeovers
        ∧ t.re.counters.reverts = countIf revert s.re.counters.reverts ∧ t.re.revertPending = false
        ∧ t.flagSet (if revert then .revert else .changeover) = true
        ∧ t.re.readIndex.get o = (head.map (·.index)).getD (s.ring o).writeIndex
        ∧ t.re.lastReleasedArrival = s.re.lastReleasedArrival
        ∧ t.ds = { s.ds with
                   rings := s.ds.rings.set o { s.ring o with slots := (s.ring o).slots.filter fun x => !old x }
                   accounts := s.ds.accounts.set o discarded }
        ∧ t.re.counters.mfnIdleSlots = count s.re.counters.mfnIdleSlots
        ∧ t.lines = { s.lines with portT := s.beginsAtT true nullPacket }
        ∧ t.dt.nextSlot = some (addTicks start p.advance.1))
    ∧ (∀ x, head = some x → atOrAfter start (addTicks x.arrival s.dt.nominalDelay) = true → (s.ring o).Lawful →
      pidOf x.packet = 8191 → ∃ t : State, exec .departureSlot s = .next t
        ∧ t.re.selected = o ∧ t.re.counters.changeovers = countIf (!revert) s.re.counters.changeovers
        ∧ t.re.counters.reverts = countIf revert s.re.counters.reverts ∧ t.re.revertPending = false
        ∧ t.flagSet (if revert then .revert else .changeover) = true
        ∧ t.re.readIndex.get o = (x.index + 1) % 16384 ∧ t.re.lastReleasedArrival = some x.arrival
        ∧ t.ds = { s.ds with
                   rings := s.ds.rings.set o
                     { s.ring o with slots := (s.ring o).slots.filter fun y => !old y && y.index != x.index }
                   accounts := s.ds.accounts.set o { discarded with released := discarded.released + 1 } }
        ∧ t.re.counters.mfnIdleSlots = s.re.counters.mfnIdleSlots
        ∧ t.lines = { s.lines with portT := s.beginsAtT true x.packet }
        ∧ t.dt.nextSlot = some (addTicks start p.advance.1))

/-- A slot of the group being released gives its next position (R31, R32): one that neither the chosen record nor a twin of the
same length and not EARLY holds goes out as a null packet and is counted as a gap; the next slot follows by the pacer from the
start of this one (R53, R54), and the last position ends the release: the record DONE, its twin DISCARDED, no further slot (R33,
R57). A position that its record holds is released from its slot, which is freed and counted "released"; one that only the twin
holds, of the same declared length and not EARLY, is released from the twin's and counted (R10, R31, R32): the gate brought into
line, it goes through the stages with this slot's start and its own arrival (R41), what they leave through stage 6, and its slot
becomes EMPTY (R44); the next position follows, or the release ends, unless a command of the packet has ended it (R45). While the
last position goes through the stages the next-slot register holds that slot's own time (the model's reading, log entry 15). A
packet on PID 8191 that begins at port T adds to a running trace's tally of null slots, one the feed carried included (the model's
reading of R182, log entry 26), the trace running as the packet begins, a TRACE_START of that very packet included (the model's
choice, log entry 45). The slot is completed before the late starts that a command of it has made (the model's choice, log entry
40). A null packet goes out as it came (R42). A slot holds a position where it is HELD and bears the group and the position (R32).
-/
def Obligations.SfnSlot : Prop :=
  (∀ (s : State) (start : SiteTime) (p : Pacer) (g : Releasing) (r : GroupRecord), s.SlotDue start p → s.re.mode = .sfn →
    s.re.releasing = some g → s.record? g.feed g.number = some r → s.holder g.feed g.number r.nextPosition = none →
    (s.holder g.feed.other g.number r.nextPosition = none ∨ s.record? g.feed.other g.number = none
      ∨ ∃ t, s.record? g.feed.other g.number = some t ∧ (t.length ≠ r.length ∨ t.verdict = .early)) →
    ∃ u : State, exec .departureSlot s = .next u.settle
      ∧ u.re.counters = { s.re.counters with gapPositions := count s.re.counters.gapPositions }
      ∧ u.lines = { s.lines with portT := s.beginsAtT false nullPacket }
      ∧ u.dt.counters = { s.dt.counters with slots := count s.dt.counters.slots }
      ∧ (r.nextPosition + 1 < r.length →
          u = { s with ds := u.ds, re := u.re, dt := u.dt, su := u.su, mu := u.mu, lines := u.lines }
          ∧ u.record? g.feed g.number = some { r with nextPosition := r.nextPosition + 1 }
          ∧ u.re.releasing = some g ∧ (∀ h, u.ring h = s.ring h) ∧ u.ds.accounts = s.ds.accounts
          ∧ u.dt.nextSlot = some (addTicks start p.advance.1) ∧ u.dt.pacer = some p.advance.2)
      ∧ (r.length ≤ r.nextPosition + 1 → (∀ h, ((s.table h).map (·.number)).Nodup) →
          u.re.releasing = none ∧ u.dt.nextSlot = none ∧ (∀ h, u.record? h g.number = none)
          ∧ ∀ h, ∀ x ∈ (u.ring h).slots, x.isHeld = true → x.group ≠ some g.number))
  ∧ (∀ (s : State) (start : SiteTime) (p : Pacer) (g : Releasing) (r : GroupRecord) (x : Slot), s.SlotDue start p →
    s.re.mode = .sfn → s.re.releasing = some g → s.record? g.feed g.number = some r → r.nextPosition + 1 < r.length →
    pidOf x.packet = 8191 → (∀ h, (s.ring h).Lawful) →
    (s.holder g.feed g.number r.nextPosition = some x → ∃ u : State, exec .departureSlot s = .next u.settle
      ∧ u.re = s.re ∧ u.record? g.feed g.number = some { r with nextPosition := r.nextPosition + 1 }
      ∧ u.ring g.feed = { s.ring g.feed with slots := (s.ring g.feed).slots.filter fun y => y.index != x.index }
      ∧ u.ring g.feed.other = s.ring g.feed.other
      ∧ u.ds.accounts = s.ds.accounts.set g.feed
          { s.ds.accounts.get g.feed with released := (s.ds.accounts.get g.feed).released + 1 }
      ∧ u.lines = { s.lines with portT := s.beginsAtT false x.packet }
      ∧ u.dt.nextSlot = some (addTicks start p.advance.1))
    ∧ (s.holder g.feed g.number r.nextPosition = none → ∀ w, s.record? g.feed.other g.number = some w →
      w.length = r.length → w.verdict ≠ .early → s.holder g.feed.other g.number r.nextPosition = some x →
      ∃ u : State, exec .departureSlot s = .next u.settle
        ∧ u.re = { s.re with counters := { s.re.counters with twinPositions := count s.re.counters.twinPositions } }
        ∧ u.record? g.feed g.number = some { r with nextPosition := r.nextPosition + 1 }
        ∧ u.ring g.feed.other =
            { s.ring g.feed.other with slots := (s.ring g.feed.other).slots.filter fun y => y.index != x.index }
        ∧ u.ring g.feed = s.ring g.feed
        ∧ u.ds.accounts = s.ds.accounts.set g.feed.other
            { s.ds.accounts.get g.feed.other with released := (s.ds.accounts.get g.feed.other).released + 1 }
        ∧ u.lines = { s.lines with portT := s.beginsAtT false x.packet }))
  ∧ (∀ (s : State) (start : SiteTime) (p : Pacer) (g : Releasing) (r : GroupRecord) (x : Slot) (f : Feed), s.SlotDue start p →
    s.re.mode = .sfn → s.re.releasing = some g → s.record? g.feed g.number = some r → (∀ h, (s.ring h).Lawful) →
    (f = g.feed ∧ s.holder g.feed g.number r.nextPosition = some x)
      ∨ (f = g.feed.other ∧ s.holder g.feed g.number r.nextPosition = none
          ∧ s.holder g.feed.other g.number r.nextPosition = some x
          ∧ ∃ w, s.record? g.feed.other g.number = some w ∧ w.length = r.length ∧ w.verdict ≠ .early) →
    ∃ v : State, s.GateBrought v false ∧ s.Entered v f x
      ∧ v.re = { s.re with
                 counters := { s.re.counters with twinPositions := countIf (f != g.feed) s.re.counters.twinPositions } }
      ∧ v.dt = { s.dt with
                 pacer := if r.nextPosition + 1 < r.length then some p.advance.2 else s.dt.pacer
                 nextSlot := if r.nextPosition + 1 < r.length then some (addTicks start p.advance.1) else s.dt.nextSlot
                 counters := { s.dt.counters with slots := count s.dt.counters.slots } }
      ∧ ∀ u after, v.stages start x.arrival x.packet = (u, after) → ∃ w t : State, u.Begun w f x.index after
        ∧ exec .departureSlot s = .next t.settle
        ∧ (u.re.releasing ≠ some g → t = w)
        ∧ (u.re.releasing = some g → r.nextPosition + 1 < r.length → t =
            { w with
              ds := { w.ds with
                      tables := w.ds.tables.set g.feed (modifyFirst (fun y => y.number == g.number)
                        (fun y => { y with nextPosition := r.nextPosition + 1 }) (w.table g.feed)) } })
        ∧ (u.re.releasing = some g → r.length ≤ r.nextPosition + 1 → t.lines = w.lines ∧ t.re.releasing = none
          ∧ t.dt = { w.dt with nextSlot := none } ∧ t.re.counters = w.re.counters
          ∧ ∀ h, t.table h = removeFirst (fun y => y.number == g.number) (w.table h)
            ∧ t.ring h = { w.ring h with
                           slots := (w.ring h).slots.filter fun y => !(y.isHeld && y.group == some g.number) }))
  ∧ (∀ (s : State) (f : Feed) (n : Cadence) (k : Nat) (bears : Slot → Prop),
    bears = (fun x => x ∈ (s.ring f).slots ∧ x.isHeld = true ∧ x.group = some n ∧ x.position = some k) →
    (∀ x, s.holder f n k = some x → bears x) ∧ (s.holder f n k = none → ∀ x, ¬ bears x))

/-- The forced-return time reached, with the mark not yet set, on a channel on air: the mark is set, the forced return counted and
SPLICE_FORCED raised (R121). A revert timer that has reached the hold makes a revert pending (R37). Before its time either event
does nothing (log entry 6). -/
def Obligations.ForcedReturnAndRevertTimer : Prop :=
  ∀ s : State, s.lines.resetHeld = false →
    (∀ c a o, ((s.channel c).state = .out ∨ (s.channel c).state = .returning) → (s.channel c).active = some a →
      a.out = some o →
      (o.forced = false → atOrAfter s.tu.time o.forcedAt = true → ∃ t : State, exec (.forcedReturn c) s = .next t
        ∧ t = { s with sc := t.sc, su := t.su, mu := t.mu } ∧ s.FlagRaised t .spliceForced
        ∧ t.sc = { s.sc with
                   channels := setAt s.sc.channels c
                     { s.channel c with
                       active := some { a with out := some { o with forced := true } }
                       counters := { (s.channel c).counters with
                                     forcedReturns := count (s.channel c).counters.forcedReturns } } })
      ∧ (isBefore s.tu.time o.forcedAt = true → exec (.forcedReturn c) s = .next s))
    ∧ (∀ τ, s.re.revertTimer = some τ →
        ((s.re.revertHold * 27000000 : Nat) ≤ siteDiff s.tu.time τ →
          exec .revertTimerExpiry s = .next { s with re := { s.re with revertPending := true } })
        ∧ (siteDiff s.tu.time τ < (s.re.revertHold * 27000000 : Nat) → exec .revertTimerExpiry s = .next s))

/-- The pacer's law (R53): from an anchor, where the accumulator is 0, slot k begins floor(k × N / R) ticks after it, N being
40,608,000,000; every interval is q or q + 1 and the accumulator stays in 0..R − 1; and the next slot time is the start of a slot
plus its interval. -/
def Obligations.PacerLaw : Prop :=
  ∀ rate : Nat, 0 < rate →
    (pacerFor rate).acc = 0
    ∧ (∀ k, (pacerFor rate).ticksTo k = k * 40608000000 / rate)
    ∧ (∀ p : Pacer, p.rate = rate → p.quotient = 40608000000 / rate → p.remainder = 40608000000 % rate → p.acc < rate →
        p.advance.2.acc < rate ∧ (p.advance.1 = 40608000000 / rate ∨ p.advance.1 = 40608000000 / rate + 1)
        ∧ (p.advance.2.rate = rate ∧ p.advance.2.quotient = p.quotient ∧ p.advance.2.remainder = p.remainder)
        ∧ ∀ (d : DepartureTimer) (start : SiteTime), d.pacer = some p →
            d.computeNext start = { d with pacer := some p.advance.2, nextSlot := some (addTicks start p.advance.1) })

/-- The Stream Table at the release of a packet of an entry, no channel being enabled (R41, R43, R65, R88 to R92): the input count
checked and recorded, an error counted with CONTINUITY_ERROR; under DROP a null packet goes on; under PASS the packet leaves with
the produced PID and, with continuity managed, the entry's next output count; in MFN mode a clock carrier's clock reference is
advanced by D − A − Dn modulo 2^33 × 300. Without an entry the default action decides, a PID that a PASS entry produces being
shadowed. With channels enabled stage 3 comes between stage 2 and stage 4 (R41, R105): it is run on the state that stage 2 leaves,
and on the packet as it came, only where the packet is passed; a null packet from it goes straight to stage 6; what else it hands
on, a clip packet among it, takes the network packet's entry through stages 4 and 5 (R150), and without an entry goes on
unchanged. A produced PID and an output count change their own bits alone (R91, R92), and the clock reference is read and written
as base × 300 + extension in its own bits (R64, R65). -/
def Obligations.StreamTableAtRelease : Prop :=
  (∀ (s u : State) (start arrival : SiteTime) (packet after : Packet),
    usablePid (pidOf packet) = true → (∀ c, (s.channel c).state = .disabled) → s.stages start arrival packet = (u, after) →
    (∀ (e : StreamEntry) (broken : Bool) (out : Continuity) (q : Packet), s.st.entry? (pidOf packet) = some e →
      broken = (e.check && payloadPresent packet && !transportError packet &&
        e.lastIn.any fun l => continuityOf packet != l && continuityOf packet != l + 1) →
      out = (if e.managed then e.lastOut.elim (continuityOf packet) fun l => if payloadPresent packet then l + 1 else l
             else continuityOf packet) →
      q = setContinuity (setPid packet (e.outPid.getD e.inPid)) out →
      u = { s with dt := u.dt, st := u.st, su := u.su, mu := u.mu }
      ∧ (broken = false → u.su = s.su ∧ u.mu = s.mu)
      ∧ (broken = true → u.RaisedFrom { s.su with seenContinuity := true } s.mu .continuityError)
      ∧ (∀ p, p ≠ pidOf packet → u.st.entry? p = s.st.entry? p)
      ∧ (e.action = .drop → after = nullPacket ∧ u.dt = s.dt ∧ u.st.entry? (pidOf packet) = some
          { e with
            lastIn := if payloadPresent packet && !transportError packet then some (continuityOf packet) else e.lastIn
            errors := countIf broken e.errors, dropped := count e.dropped })
      ∧ (e.action = .pass → u.st.entry? (pidOf packet) = some
          { e with
            lastIn := if payloadPresent packet && !transportError packet then some (continuityOf packet) else e.lastIn
            lastOut := if payloadPresent packet then some out else e.lastOut
            errors := countIf broken e.errors, released := count e.released })
      ∧ (e.action = .pass → s.re.mode = .mfn ∧ e.carrier = true ∧ carriesClock q = true →
          after = setClock q
            (((clockOf q : Int) + (siteDiff start arrival - s.dt.nominalDelay)) % (2 ^ 33 * 300)).toNat
          ∧ u.dt = { s.dt with
                     counters := { s.dt.counters with clockCorrected := count s.dt.counters.clockCorrected } })
      ∧ (e.action = .pass → ¬ (s.re.mode = .mfn ∧ e.carrier = true ∧ carriesClock q = true) → after = q ∧ u.dt = s.dt))
    ∧ (s.st.entry? (pidOf packet) = none →
      (s.st.default = .drop → after = nullPacket
        ∧ u = { s with st := { s.st with defaultDrops := count s.st.defaultDrops } })
      ∧ (s.st.default = .pass → (∃ x ∈ s.st.entries, x.action = .pass ∧ x.outPid.getD x.inPid = pidOf packet) →
          after = nullPacket ∧ u = { s with st := { s.st with shadowedDrops := count s.st.shadowedDrops } })
      ∧ (s.st.default = .pass → (∀ x ∈ s.st.entries, x.action = .pass → x.outPid.getD x.inPid ≠ pidOf packet) →
          after = packet ∧ u = { s with st := { s.st with defaultPasses := count s.st.defaultPasses } })))
  ∧ (∀ (s : State) (start arrival : SiteTime) (packet : Packet) (e : StreamEntry) (broken : Bool) (out : Packet → Continuity)
      (entries : (StreamEntry → StreamEntry) → List StreamEntry → List StreamEntry),
    s.st.entry? (pidOf packet) = some e →
    broken = (e.check && payloadPresent packet && !transportError packet &&
      e.lastIn.any fun l => continuityOf packet != l && continuityOf packet != l + 1) →
    out = (fun p =>
      if e.managed then e.lastOut.elim (continuityOf p) fun l => if payloadPresent p then l + 1 else l else continuityOf p) →
    entries = modifyFirst (fun x => x.inPid == pidOf packet) →
    ∃ v : State, v = { s with st := v.st, su := v.su, mu := v.mu } ∧ (broken = false → v.su = s.su ∧ v.mu = s.mu)
      ∧ (broken = true → v.RaisedFrom { s.su with seenContinuity := true } s.mu .continuityError)
      ∧ v.st = { s.st with
                 entries := entries (fun x =>
                   { x with
                     lastIn := if payloadPresent packet && !transportError packet then some (continuityOf packet) else e.lastIn
                     errors := countIf broken e.errors
                     released := if e.action = .pass then count e.released else e.released
                     dropped := if e.action = .pass then e.dropped else count e.dropped }) s.st.entries }
      ∧ (e.action = .drop → s.streamStages start arrival packet = (v, nullPacket))
      ∧ (e.action = .pass → ∀ t, v.stage3 packet = (t, .null) → s.streamStages start arrival packet = (t, nullPacket))
      ∧ (e.action = .pass → ∀ t p q, v.stage3 packet = (t, .packet p) →
          q = setContinuity (setPid p (e.outPid.getD e.inPid)) (out p) →
          ∃ u after, s.streamStages start arrival packet = (u, after) ∧ u = { t with dt := u.dt, st := u.st }
            ∧ u.st = { t.st with
                       entries := entries (fun x =>
                         { x with lastOut := if payloadPresent p then some (out p) else e.lastOut }) t.st.entries }
            ∧ (s.re.mode = .mfn ∧ e.carrier = true ∧ carriesClock q = true →
                after = setClock q
                  (((clockOf q : Int) + (siteDiff start arrival - s.dt.nominalDelay)) % (2 ^ 33 * 300)).toNat
                ∧ u.dt = { t.dt with
                           counters := { t.dt.counters with clockCorrected := count t.dt.counters.clockCorrected } })
            ∧ (¬ (s.re.mode = .mfn ∧ e.carrier = true ∧ carriesClock q = true) → after = q ∧ u.dt = t.dt)))
  ∧ (∀ (s v : State) (start arrival : SiteTime) (packet : Packet), s.st.entry? (pidOf packet) = none → s.st.default = .pass →
    (∀ x ∈ s.st.entries, x.action = .pass → x.outPid.getD x.inPid ≠ pidOf packet) →
    v = { s with st := { s.st with defaultPasses := count s.st.defaultPasses } } →
    (∀ t, v.stage3 packet = (t, .null) → s.streamStages start arrival packet = (t, nullPacket))
    ∧ (∀ t p, v.stage3 packet = (t, .packet p) → s.streamStages start arrival packet = (t, p)))
  ∧ (∀ (x : Packet) (pid : Pid) (n : Continuity) (c : Nat),
    (4 ≤ x.length → pid < 8192 → Remapped x (setContinuity (setPid x pid) n) pid n)
    ∧ pidOf x = byteNat x 1 % 32 * 256 + byteNat x 2 ∧ (continuityOf x).toNat = byteNat x 3 % 16
    ∧ (carriesClock x = true ↔ HasClock x)
    ∧ (12 ≤ x.length → clockOf x = clockBits x / 2 ^ 15 * 300 + clockBits x % 2 ^ 9)
    ∧ (12 ≤ x.length → c < 2 ^ 33 * 300 → ClockSet x (setClock x c) c))

/-! ### Site time and the station reference (chapter 4) -/

/-- The last time value (R70): a time message received whole replaces it; at each pulse it becomes the time value of that pulse,
if one is kept, and is cleared. The pulse starts the missing-pulse timer and its local tick count is captured (R71). The judgement
of a pulse (R72), in every state but FREE, whose first pulse is not judged (R73): the count test first, then the time value, then
REF 10 MHz; each pulse is counted, and under one judgement. -/
def Obligations.PulseTakenAndJudged : Prop :=
  (∀ s : State, s.lines.resetHeld = false →
    (∀ v, exec (.refTimeMessage v) s = .next { s with tu := { s.tu with lastTimeValue := some v } })
    ∧ ∃ u : State, exec .ppsPulse s = .next u.settle
      ∧ u.tu.lastPulse = some { localTick := s.tu.localTicks, value := s.tu.lastTimeValue }
      ∧ u.tu.lastTimeValue = none ∧ u.tu.missingTimer = true)
  ∧ (∀ (s : State) (k : TimingCounters) (countGood valueGood : Bool), s.lines.resetHeld = false → s.tu.ref ≠ .free →
    k = s.tu.counters →
    countGood = s.tu.lastPulse.any (fun p =>
      decide (26997300 ≤ s.tu.localTicks - p.localTick) && decide (s.tu.localTicks - p.localTick ≤ 27002700)) →
    valueGood = s.tu.lastPulse.any (fun p => p.value.any fun w => s.tu.lastTimeValue == some (w + 1)) →
    ∃ u : State, exec .ppsPulse s = .next u.settle ∧ u.tu.counters.pulses = count k.pulses
      ∧ u.tu.counters.good = countIf (countGood && valueGood && s.tu.freq10) k.good
      ∧ u.tu.counters.badCount = countIf (!countGood) k.badCount
      ∧ u.tu.counters.badTime = countIf (countGood && !valueGood) k.badTime
      ∧ u.tu.counters.freqAbsent = countIf (countGood && valueGood && !s.tu.freq10) k.freqAbsent)

/-- The run of good pulses (R73): the first pulse in FREE opens it unjudged with run count 0 (log entry 44); in HOLDOVER and
EXPIRED a good pulse enters QUALIFYING with run count 1, a bad one with 0; in QUALIFYING a good pulse short of the fourth
increments the run and a bad one sets it to 0; a missing pulse returns to the basis with run count 0 and no flag. The lock (R74):
the good pulse that brings the run to 4 makes site time its time value with tick 0, records the step and hands it to the Departure
Timer (R54), clears elapsed seconds, accumulator and phase error, raises REF_LOCKED and, for a step other than 0, REF_STEP, and
clears the TIMING factor (R82), before the starts that the step makes late (the model's choice under R163, log entry 39); the
history ring stays as it is. -/
def Obligations.QualificationAndLock : Prop :=
  (∀ (s : State) (c : TimingUnit), s.lines.resetHeld = false →
    c = { s.tu with
          lastPulse := some { localTick := s.tu.localTicks, value := s.tu.lastTimeValue }, lastTimeValue := none
          missingTimer := true, counters := { s.tu.counters with pulses := count s.tu.counters.pulses } } →
    (s.tu.ref = .free →
      exec .ppsPulse s = .next (State.settle { s with tu := { c with ref := .qualifying .free, run := 0 } }))
    ∧ (∀ b, (s.tu.ref = .holdover ∧ b = Basis.holdover) ∨ (s.tu.ref = .expired ∧ b = Basis.expired) →
        (s.tu.PulseGood → exec .ppsPulse s = .next (State.settle
          { s with
            tu := { c with
                    ref := .qualifying b, run := 1, counters := { c.counters with good := count c.counters.good } } }))
        ∧ (¬ s.tu.PulseGood → ∃ k, exec .ppsPulse s = .next (State.settle
          { s with tu := { c with ref := .qualifying b, run := 0, counters := k } })))
    ∧ (∀ b, s.tu.ref = .qualifying b →
        (s.tu.PulseGood → s.tu.run < 3 → exec .ppsPulse s = .next (State.settle
          { s with tu := { c with run := s.tu.run + 1, counters := { c.counters with good := count c.counters.good } } }))
        ∧ (¬ s.tu.PulseGood → ∃ k, exec .ppsPulse s = .next (State.settle
          { s with tu := { c with run := 0, counters := k } }))
        ∧ (∀ p, s.tu.missingTimer = true → s.tu.lastPulse = some p → 29700000 ≤ s.tu.localTicks - p.localTick →
            exec .missingPulseTimerExpiry s = .next
              { s with
                tu := { s.tu with
                        missingTimer := false, run := 0
                        ref := (match b with | .free => .free | .holdover => .holdover | .expired => .expired)
                        counters := { s.tu.counters with missing := count s.tu.counters.missing } } })))
  ∧ (∀ (s : State) (b : Basis) (v : Seconds) (k : Int), s.lines.resetHeld = false → s.tu.ref = .qualifying b →
    s.tu.run = 3 → s.tu.PulseGood → s.tu.lastTimeValue = some v → k = siteDiff ⟨v, 0⟩ s.tu.time →
    ∃ u : State, exec .ppsPulse s = .next u.settle
      ∧ u = { s with tu := u.tu, dt := u.dt, st := u.st, su := u.su, mu := u.mu }
      ∧ u.tu =
          { s.tu with
            time := ⟨v, 0⟩, ref := .locked, run := 4, elapsed := 0, hold := { s.tu.hold with acc := 0 }, holdSecond := none
            lastPulse := some { localTick := s.tu.localTicks, value := some v }, lastTimeValue := none, missingTimer := true
            lastPhase := 0, lastStep := k, lockedSincePowerOn := true
            counters := { s.tu.counters with
                          pulses := count s.tu.counters.pulses, good := count s.tu.counters.good
                          locks := count s.tu.counters.locks, steps := countIf (k != 0) s.tu.counters.steps } }
      ∧ u.dt = { s.dt with nextSlot := s.dt.nextSlot.map fun t => addTicks t k }
      ∧ u.flagSet .refLocked = true ∧ u.flagSet .refStep = (decide (k ≠ 0) || s.flagSet .refStep) ∧ u.su.timing = false)

/-- A good pulse in LOCKED (R75, R77): the phase error is the captured tick, less 27,000,000 from 13,500,000 on; within ±27 site
time becomes the time value with tick 0, a step handed to the Departure Timer unless the error is 0, and the pulse's count enters
the history ring, whose oldest of 16 leaves; beyond, the lock ends without a step, the fault is counted and HOLDOVER is entered
with the length computed from the history ring, which keeps its counts (R76, R78). -/
def Obligations.GoodPulseInLocked : Prop :=
  ∀ (s : State) (v : Seconds) (p : Pulse) (e k : Int) (c : TimingCounters) (length : HoldLength),
    s.lines.resetHeld = false → s.tu.ref = .locked → s.tu.PulseGood → s.tu.lastTimeValue = some v → s.tu.lastPulse = some p →
    e = (if s.tu.time.tick < 13500000 then (s.tu.time.tick : Int) else s.tu.time.tick - 27000000) →
    length = (if 4 ≤ s.tu.history.length then
                ⟨s.tu.history.sum / s.tu.history.length, s.tu.history.sum % s.tu.history.length, s.tu.history.length, 0⟩
              else ⟨27000000, 0, 1, 0⟩) →
    k = siteDiff ⟨v, 0⟩ s.tu.time →
    c = { s.tu.counters with pulses := count s.tu.counters.pulses, good := count s.tu.counters.good } →
    (-27 ≤ e → e ≤ 27 → exec .ppsPulse s = .next (State.settle
      { s with
        tu := { s.tu with
                time := if e = 0 then s.tu.time else ⟨v, 0⟩
                lastStep := if e = 0 then s.tu.lastStep else k
                lastPulse := some { localTick := s.tu.localTicks, value := some v }, lastTimeValue := none
                missingTimer := true, lastPhase := e, counters := c
                history := (if 16 ≤ s.tu.history.length then s.tu.history.drop 1 else s.tu.history)
                  ++ [s.tu.localTicks - p.localTick] }
        dt := if e = 0 then s.dt else { s.dt with nextSlot := s.dt.nextSlot.map fun t => addTicks t k } }))
    ∧ (e < -27 ∨ 27 < e → ∃ u : State, exec .ppsPulse s = .next u.settle
      ∧ u = { s with tu := u.tu, su := u.su, mu := u.mu } ∧ s.FlagRaised u .refHoldover
      ∧ u.tu =
          { s.tu with
            ref := .holdover, hold := length, holdSecond := none, elapsed := 0, lastPhase := e
            lastPulse := some { localTick := s.tu.localTicks, value := some v }, lastTimeValue := none, missingTimer := true
            counters := { c with phaseFaults := count c.phaseFaults, holdoverEntries := count c.holdoverEntries } })

/-- What ends a lock beside that (R76): a bad pulse, the missing-pulse timer's expiry, the loss of REF 10 MHz. Each enters
HOLDOVER without a step, raising REF_HOLDOVER, with the length computed from the history ring: base floor(S / n) and remainder S
mod n from 4 counts on, else 27,000,000 (R78). Outside LOCKED the loss of REF 10 MHz changes no state, nor does its return
anywhere (R72). A missing pulse in FREE, HOLDOVER or EXPIRED is counted and changes no state (R71); before 29,700,000 local ticks
the event does nothing (log entry 6). -/
def Obligations.LockLossAndMissingPulse : Prop :=
  (∀ (s : State) (length : HoldLength), s.lines.resetHeld = false →
    length = (if 4 ≤ s.tu.history.length then
                ⟨s.tu.history.sum / s.tu.history.length, s.tu.history.sum % s.tu.history.length, s.tu.history.length, 0⟩
              else ⟨27000000, 0, 1, 0⟩) →
    (s.tu.ref = .locked →
      (¬ s.tu.PulseGood → ∃ u : State, exec .ppsPulse s = .next u.settle
        ∧ u = { s with tu := u.tu, su := u.su, mu := u.mu } ∧ s.FlagRaised u .refHoldover
        ∧ u.tu =
            { s.tu with
              ref := .holdover, hold := length, holdSecond := none, elapsed := 0, counters := u.tu.counters
              lastPulse := some { localTick := s.tu.localTicks, value := s.tu.lastTimeValue }, lastTimeValue := none
              missingTimer := true }
        ∧ u.tu.counters.holdoverEntries = count s.tu.counters.holdoverEntries)
      ∧ (∀ p, s.tu.missingTimer = true → s.tu.lastPulse = some p → 29700000 ≤ s.tu.localTicks - p.localTick →
        ∃ t : State, exec .missingPulseTimerExpiry s = .next t
          ∧ t = { s with tu := t.tu, su := t.su, mu := t.mu } ∧ s.FlagRaised t .refHoldover
          ∧ t.tu =
              { s.tu with
                ref := .holdover, hold := length, holdSecond := none, elapsed := 0, missingTimer := false
                counters := { s.tu.counters with
                              missing := count s.tu.counters.missing
                              holdoverEntries := count s.tu.counters.holdoverEntries } })
      ∧ (s.tu.freq10 = true → ∃ t : State, exec .ref10MHzLost s = .next t
          ∧ t = { s with tu := t.tu, su := t.su, mu := t.mu } ∧ s.FlagRaised t .refHoldover
          ∧ t.tu =
              { s.tu with
                ref := .holdover, hold := length, holdSecond := none, elapsed := 0, freq10 := false
                counters := { s.tu.counters with
                              freqLosses := count s.tu.counters.freqLosses
                              holdoverEntries := count s.tu.counters.holdoverEntries } }))
    ∧ (s.tu.ref ≠ .locked → exec .ref10MHzLost s = .next { s with tu := { s.tu with freq10 := false } })
    ∧ exec .ref10MHzRestored s = .next { s with tu := { s.tu with freq10 := true } })
  ∧ (∀ (s : State) (p : Pulse), s.lines.resetHeld = false → s.tu.lastPulse = some p →
    (s.tu.missingTimer = true → 29700000 ≤ s.tu.localTicks - p.localTick →
      s.tu.ref = .free ∨ s.tu.ref = .holdover ∨ s.tu.ref = .expired →
      exec .missingPulseTimerExpiry s = .next
        { s with
          tu := { s.tu with
                  missingTimer := false, counters := { s.tu.counters with missing := count s.tu.counters.missing } } })
    ∧ (s.tu.missingTimer = false ∨ s.tu.localTicks - p.localTick < 29700000 → exec .missingPulseTimerExpiry s = .next s))

/-- The second in progress when HOLDOVER is entered ends after tick 26,999,999 without hold or skip, and the first holdover second
begins with the tick at 0 (R78). While a holdover second of length λ is in progress each local tick advances the site tick, which
holds at 26,999,999, and the second ends with its last local tick, whatever tick has been reached (R79). Both are the idle step on
an empty queue (the model's choice, log entry 4). The end of a holdover second (R78, R79, R80): the next begins at tick 0 of the
next second, its length base + 1 where the accumulator with the remainder added reaches n, which is then subtracted, else base;
the elapsed seconds are incremented, stopping at 2^32 − 1; at the limit HOLDOVER becomes EXPIRED and a basis HOLDOVER the basis
EXPIRED, with REF_EXPIRED; sent before the second has ended, the event does nothing (log entry 6). From its start, with a history
of 4 counts or more, k seconds last together floor(k × S / n) local ticks, S being the sum of the n counts (R78). -/
def Obligations.HoldoverSecond : Prop :=
  (∀ (s : State) (long : Bool), s.pending = [] → s.lines.resetHeld = false → s.dueEvents = [] →
    s.tu.ref.inHoldover = true → s.tu.holdSecond = none →
    long = decide (s.tu.hold.n ≤ s.tu.hold.acc + s.tu.hold.remainder) →
    (s.tu.time.tick < 26999999 → step s = .next
      { s with
        tu := { s.tu with localTicks := s.tu.localTicks + 1, time := { s.tu.time with tick := s.tu.time.tick + 1 } } })
    ∧ (s.tu.time.tick = 26999999 → step s = .next
      { s with
        tu := { s.tu with
                localTicks := s.tu.localTicks + 1
                time := { sec := s.tu.time.sec + 1, tick := 0 }
                hold := { s.tu.hold with
                          acc := if long then s.tu.hold.acc + s.tu.hold.remainder - s.tu.hold.n
                                 else s.tu.hold.acc + s.tu.hold.remainder }
                holdSecond := some { length := if long then s.tu.hold.base + 1 else s.tu.hold.base, passed := 0 } } }))
  ∧ (∀ (s : State) (h : HoldSecond), s.pending = [] → s.lines.resetHeld = false → s.dueEvents = [] →
    s.tu.ref.inHoldover = true → s.tu.holdSecond = some h →
    step s = .next
      { s with
        tu := { s.tu with
                localTicks := s.tu.localTicks + 1
                holdSecond := some { h with passed := h.passed + 1 }
                time := if h.length ≤ h.passed + 1 then s.tu.time
                        else { s.tu.time with tick := min (h.passed + 1) 26999999 } } })
  ∧ (∀ (s : State) (h : HoldSecond) (long : Bool) (after : RefState), s.lines.resetHeld = false →
    s.tu.ref.inHoldover = true → s.tu.holdSecond = some h →
    long = decide (s.tu.hold.n ≤ s.tu.hold.acc + s.tu.hold.remainder) →
    after = (match s.tu.ref with | .holdover => .expired | .qualifying .holdover => .qualifying .expired | r => r) →
    (h.length ≤ h.passed → ∃ t : State, exec .holdoverSecondEnd s = .next t
      ∧ t = { s with tu := t.tu, su := t.su, mu := t.mu }
      ∧ t.tu =
          { s.tu with
            time := { sec := s.tu.time.sec + 1, tick := 0 }
            elapsed := min (s.tu.elapsed + 1) 4294967295
            hold := { s.tu.hold with
                      acc := if long then s.tu.hold.acc + s.tu.hold.remainder - s.tu.hold.n
                             else s.tu.hold.acc + s.tu.hold.remainder }
            holdSecond := some { length := if long then s.tu.hold.base + 1 else s.tu.hold.base, passed := 0 }
            ref := if s.tu.limit ≤ min (s.tu.elapsed + 1) 4294967295 then after else s.tu.ref }
      ∧ (t.tu.ref = s.tu.ref → t.su = s.su ∧ t.mu = s.mu) ∧ (t.tu.ref ≠ s.tu.ref → s.FlagRaised t .refExpired))
    ∧ (h.passed < h.length → exec .holdoverSecondEnd s = .next s))
  ∧ (∀ (history : List Nat) (k : Nat), 4 ≤ history.length →
    (holdLengthOf history).ticksOver k = k * history.sum / history.length)

/-- Only the reference ends a lock (R76): if a command takes the machine out of LOCKED it is a pulse, a missing pulse, the loss of
REF 10 MHz, or POWER_ON. -/
def Obligations.OnlyTheReferenceEndsALock : Prop :=
  ∀ (c : Instr) (s t : State), exec c s = .next t → s.tu.ref = .locked → t.tu.ref ≠ .locked →
    c = .ppsPulse ∨ c = .missingPulseTimerExpiry ∨ c = .ref10MHzLost ∨ ∃ pins, c = .powerOn pins

/-! ### Scan, clip memory and port M (chapters 7, 9, 10 and 11) -/

/-- A scan (R165 to R169, R178, R182), when the timer has run its period of local ticks: each condition is evaluated, its factor
set with the class of its action while it is true, the requested state derived afresh, the seen marks cleared; a factor newly STOP
takes an automatic snapshot, skipped where one is HELD; a running trace samples, where its divider count is 0, the values of its
quantities as the table of 10.2 gives them, the feed and the states of gate, reference and channels as the numbers that the model
chose for them (log entry 32); the scan number advances and the timer starts again with the period of the setting. The prefetch
low level is the smallest queue among the components that need a read, or 16 (R145). A gate that enters STARTING makes every last
output continuity absent (R93). Before the timer has run its period the event does nothing (log entries 6 and 28). -/
def Obligations.ScanTaken : Prop :=
  (∀ (s : State) (down : Feed → Bool) (now : Vector Bool 9) (factors : Vector DiagAction 9) (newly : Fin 9 → Bool) (gate : Gate)
    (value : State → Quantity → Int),
    s.lines.resetHeld = false →
    down = (fun f => decide (s.linkOf f = .lost ∨ s.linkOf f = .absent)) →
    now = #v[down .a, down .b, down .a && down .b,
             decide (s.tu.ref = .holdover ∨ s.tu.ref = .qualifying .holdover),
             decide (s.tu.ref = .expired ∨ s.tu.ref = .qualifying .expired),
             decide (s.re.mode = .sfn) && !(s.re.lastGroupStart.any fun t =>
               decide (0 ≤ siteDiff s.tu.time t) && decide (siteDiff s.tu.time t ≤ 27000000)),
             s.su.seenOverflow, s.su.seenUnderrun, s.su.seenContinuity] →
    factors = (Vector.ofFn fun i => if getAt now i then getAt s.su.actions i else .continue) →
    newly = (fun i => decide (getAt factors i = .stop) && decide (getAt s.su.factors i ≠ .stop)) →
    gate = (if s.su.mgmt = .stop ∨ s.su.noRate = true ∨ s.su.timing = true ∨ .stop ∈ factors.toList then .stop
            else if s.su.mgmt = .hold ∨ .hold ∈ factors.toList then .hold else .run) →
    value = (fun t q => match q with
      | .storeFillA => (s.ring .a).slots.length
      | .storeFillB => (s.ring .b).slots.length
      | .selectedFeed => match s.re.selected with | .a => 0 | .b => 1
      | .gateEffective => match t.su.effective with | .stopped => 0 | .starting => 1 | .holding => 2 | .running => 3
      | .refState =>
        match s.tu.ref with | .free => 0 | .qualifying _ => 1 | .locked => 2 | .holdover => 3 | .expired => 4
      | .refPhase => s.tu.lastPhase
      | .nullSlots => s.su.trace.nullSlots
      | .gapPositions => s.su.trace.gapPositions
      | .channelState0 => (s.channel 0).state.number
      | .channelState1 => (s.channel 1).state.number
      | .channelState2 => (s.channel 2).state.number
      | .channelState3 => (s.channel 3).state.number
      | .prefetchLow => s.prefetchLow
      | .monitorQueueFill => t.mu.queue.length) →
    (s.su.scanPeriod ≤ s.tu.localTicks - s.su.scanStart → ∃ t : State, exec .scan s = .next t
      ∧ t = { s with st := t.st, su := t.su, mu := t.mu }
      ∧ t.su.conditions = now ∧ t.su.factors = factors ∧ t.su.requested = gate
      ∧ (s.su.effective = .stopped ∨ s.su.effective = .starting →
          t.su.effective = if gate = .stop then .stopped else .starting)
      ∧ (s.su.effective = .running ∨ s.su.effective = .holding →
          t.su.effective = if s.dt.nextSlot ≠ none then s.su.effective
                           else match gate with | .run => .running | .hold => .holding | .stop => .stopped)
      ∧ t.st = (if t.su.effective = .starting ∧ s.su.effective ≠ .starting
                then { s.st with entries := s.st.entries.map fun e => { e with lastOut := none } } else s.st)
      ∧ t.su.seenOverflow = false ∧ t.su.seenUnderrun = false ∧ t.su.seenContinuity = false
      ∧ t.su.scanNumber = s.su.scanNumber + 1 ∧ t.su.scanStart = s.tu.localTicks ∧ t.su.scanSetting = s.su.scanSetting
      ∧ t.su.scanPeriod = 27000 * (if s.su.scanSetting = 0 then 100
                                   else if s.su.scanSetting ≤ 200 then s.su.scanSetting * 10 else 2000)
      ∧ t.su.actions = s.su.actions ∧ t.su.unmasked = s.su.unmasked
      ∧ ((∀ i, newly i = false) → t.su.snapshot = s.su.snapshot
          ∧ t.su.counters.snapshotsTaken = s.su.counters.snapshotsTaken
          ∧ t.su.counters.snapshotsSkipped = s.su.counters.snapshotsSkipped)
      ∧ (∀ i, newly i = true →
          (∀ r, s.su.snapshot = .held r → t.su.snapshot = .held r
            ∧ t.su.counters.snapshotsSkipped = count s.su.counters.snapshotsSkipped)
          ∧ ((∀ r, s.su.snapshot ≠ .held r) → ∃ r, t.su.snapshot = .held r ∧ r.taking = .automatic (Vector.ofFn newly)
            ∧ r.time = s.tu.time ∧ r.scanNumber = s.su.scanNumber ∧ r.requested = gate ∧ r.effective = t.su.effective
            ∧ r.flags = t.su.flags ∧ r.selected = s.re.selected ∧ r.ref = s.tu.ref ∧ r.fillA = (s.ring .a).slots.length
            ∧ r.fillB = (s.ring .b).slots.length
            ∧ t.su.counters.snapshotsTaken = count s.su.counters.snapshotsTaken))
      ∧ (∀ c, s.su.trace.state = .running → s.su.trace.config = some c →
          t.su.trace.dividerCount = (s.su.trace.dividerCount + 1) % 2 ^ c.divider
          ∧ (s.su.trace.dividerCount ≠ 0 → t.su.trace = { s.su.trace with dividerCount := t.su.trace.dividerCount })
          ∧ (s.su.trace.dividerCount = 0 → t.su.trace.samplesTaken = s.su.trace.samplesTaken + 1
            ∧ t.su.trace.nullSlots = 0 ∧ t.su.trace.gapPositions = 0
            ∧ t.su.trace.samples =
                (if 512 ≤ s.su.trace.samples.length then s.su.trace.samples.drop 1 else s.su.trace.samples)
                  ++ [{ scanNumber := s.su.scanNumber, time := s.tu.time
                        values := c.quantities.map fun q => (q, value t q) }]
            ∧ t.su.trace.state = if c.oneShot = true ∧ 511 ≤ s.su.trace.samples.length then .filled else .running)))
    ∧ (s.tu.localTicks - s.su.scanStart < s.su.scanPeriod → exec .scan s = .next s))
  ∧ (∀ s : State, s.prefetchLow ≤ 16 ∧ (∀ p, s.needsRead p = true → s.prefetchLow ≤ (getAt s.cm.prefetch p).queue.length)
    ∧ (s.prefetchLow < 16 → ∃ p, s.needsRead p = true ∧ s.prefetchLow = (getAt s.cm.prefetch p).queue.length))

/-- The arbiter (R144, R147) at the start of a memory slot, none being in progress: the grant goes to the first component, in
round-robin order after the last one granted, that needs a read; else to the write buffer; else to none; a read or a write is
counted at its grant (the model's reading, log entry 11). The end of a read (R143) puts the packet at the read pointer at the
queue's tail and moves the pointer on to the component's next stored position; a read that has become of no effect changes nothing
but the transfer, as does a write. The place of stored position i is place i mod 256 of page i / 256 of the clip's page list, at
256 × page + place; a stored position that the page list, or the 8,192 pages, do not hold faults (log entry 10). Where no such
transfer is in progress nothing happens (log entry 6). The end of a load write (R136): the packet at the head of the write buffer
stands in its place of clip memory, every other place as it was, and has left the buffer. Where the load is DRAINING and the
buffer then empty, the record becomes READY, CLIP_LOADED is raised and counted, the outcome is LOADED and the context CLOSED
(R138). -/
def Obligations.MemorySlots : Prop :=
  (∀ s : State, s.lines.resetHeld = false →
    (∀ c k, s.needsRead (componentIndex c k) = true ↔
      (((s.channel c).state = .armed ∧ k.val < (s.channel c).pids.length)
        ∨ (((s.channel c).state = .out ∨ (s.channel c).state = .returning) ∧ getAt (s.channel c).subst k ≠ .returned))
      ∧ (getAt s.cm.prefetch (componentIndex c k)).queue.length < 16
      ∧ (getAt s.cm.prefetch (componentIndex c k)).exhausted = false)
    ∧ (s.cm.transfer = none →
      (∀ j, s.needsRead (s.cm.roundRobin + j) = true → (∀ i, i < j → s.needsRead (s.cm.roundRobin + i) = false) →
        exec .memorySlot s = .next
          { s with
            cm := { s.cm with
                    transfer := some (.read (s.cm.roundRobin + j) true), roundRobin := s.cm.roundRobin + j + 1
                    counters := { s.cm.counters with prefetchReads := count s.cm.counters.prefetchReads } } })
      ∧ ((∀ p, s.needsRead p = false) → s.cm.load.buffer ≠ [] → exec .memorySlot s = .next
          { s with
            cm := { s.cm with
                    transfer := some (.write true)
                    counters := { s.cm.counters with loadWrites := count s.cm.counters.loadWrites } } })
      ∧ ((∀ p, s.needsRead p = false) → s.cm.load.buffer = [] → exec .memorySlot s = .next s))
    ∧ (∀ p i r page next, s.cm.transfer = some (.read p true) → (getAt s.cm.prefetch p).pointer = some i →
        r = s.heldClip (channelOf p) → r.pages[i / 256]? = some page → page < 8192 →
        next = ((List.range' (i + 1) (r.count - (i + 1))).find? fun j => s.cm.tagOf r j == (componentOf p).val) →
        exec .prefetchReadComplete s = .next
          { s with
            cm := { s.cm with
                    transfer := none
                    prefetch := setAt s.cm.prefetch p
                      { queue := (getAt s.cm.prefetch p).queue ++ [s.cm.packetAt (page * 256 + i % 256)]
                        pointer := next, exhausted := next.isNone } } })
    ∧ (∀ p i, s.cm.transfer = some (.read p true) → (getAt s.cm.prefetch p).pointer = some i →
        (∀ page, (s.heldClip (channelOf p)).pages[i / 256]? = some page → 8192 ≤ page) →
        exec .prefetchReadComplete s = .fault .clipAddress)
    ∧ (∀ x rest, s.cm.transfer = some (.write true) → s.cm.load.buffer = x :: rest →
        (∀ page, (s.cm.record s.cm.load.record).pages[x.position / 256]? = some page → 8192 ≤ page) →
        exec .loadWriteComplete s = .fault .clipAddress)
    ∧ (s.cm.transfer = some (.write false) →
        exec .loadWriteComplete s = .next { s with cm := { s.cm with transfer := none } })
    ∧ (∀ p, s.cm.transfer = some (.read p false) →
        exec .prefetchReadComplete s = .next { s with cm := { s.cm with transfer := none } })
    ∧ (s.cm.transfer = none → exec .prefetchReadComplete s = .next s ∧ exec .loadWriteComplete s = .next s))
  ∧ (∀ (s : State) (x : BufferedPacket) (rest : List BufferedPacket) (r : ClipRecord) (page a : Nat),
    s.lines.resetHeld = false → s.cm.transfer = some (.write true) → s.cm.load.buffer = x :: rest →
    r = s.cm.record s.cm.load.record → r.pages[x.position / 256]? = some page → page < 8192 →
    a = page * 256 + x.position % 256 →
    ∃ t : State, exec .loadWriteComplete s = .next t
      ∧ t.cm.dram.read a = some x.packet ∧ (∀ b, b ≠ a → t.cm.dram.read b = s.cm.dram.read b)
      ∧ (s.cm.load.state ≠ .draining ∨ rest ≠ [] →
          t = { s with cm := { s.cm with
                               dram := t.cm.dram, transfer := none, load := { s.cm.load with buffer := rest } } })
      ∧ (s.cm.load.state = .draining → rest = [] →
          t = { s with sc := t.sc, cm := t.cm, su := t.su, mu := t.mu } ∧ s.FlagRaised t .clipLoaded
          ∧ (t.cm.record s.cm.load.record).state = .ready ∧ (t.cm.record s.cm.load.record).pages = r.pages
          ∧ t.cm.load = .closed ∧ t.cm.lastOutcome = some (.loaded, r.id) ∧ t.cm.transfer = none
          ∧ t.cm.counters = { s.cm.counters with clipsLoaded := count s.cm.counters.clipsLoaded }
          ∧ t.cm.freeList = s.cm.freeList))

/-- Port M (R191): the packet at the queue's head leaves with the continuity count, which advances modulo 16; with the queue empty
nothing happens (log entry 6). A reply is cut into parts of 171 bytes of data, the last part carrying the rest, one part where
there are no data; the parts are numbered from 0, and the last part alone carries the last-part mark (R190). Each is a packet of
188 bytes with its fields and its CRC (11.6), bit 5 of byte 1 being 0 (the model's choice, log entry 42). They are offered in part
order: they join the tail of the queue up to 64 packets, and the later ones are dropped and counted; while a restart is pending
every one is (R191, R196). The reply is counted once, however many its parts. -/
def Obligations.PortM : Prop :=
  ∀ s : State,
    (s.lines.resetHeld = false →
      (∀ x rest, s.mu.queue = x :: rest → exec .monitorPacketSent s = .next
        { s with
          mu := { s.mu with queue := rest, continuity := s.mu.continuity + 1 }
          lines := { s.lines with
                     portM := some (x.packet.set 3
                       (BitVec.ofNat 8 ((byteAt x.packet 3).toNat / 16 * 16 + s.mu.continuity.toNat))) } })
      ∧ (s.mu.queue = [] → exec .monitorPacketSent s = .next s))
    ∧ (∀ (tag code : Byte) (status : Status) (data : List Byte) (n room : Nat) (parts : List MonitorPacket)
        (chunk body : Nat → List Byte),
        n = max 1 ((data.length + 170) / 171) → parts = replyParts s.mu.unitAddress tag code status data →
        chunk = (fun i => (data.drop (171 * i)).take 171) →
        body = (fun i => [0x01#8] ++ toBytes 2 s.mu.unitAddress.toNat ++ [tag, code] ++ toBytes 1 status.code ++ toBytes 1 i
                 ++ [if i + 1 = n then 0x01#8 else 0x00#8] ++ toBytes 1 (chunk i).length ++ chunk i) →
        room = (if s.mu.restartPending = true then 0 else 64 - s.mu.queue.length) →
        parts.length = n
        ∧ (∀ i, i < n → i < 256 → ∃ p : Packet, parts[i]? = some ⟨.reply, p⟩ ∧ p.length = 188
            ∧ p = [0x47#8, 0x5F#8, 0xF6#8, 0x10#8] ++ body i ++ toBytes 4 (crc32 (body i)).toNat
                    ++ List.replicate (171 - (chunk i).length) 0xFF#8)
        ∧ s.reply tag code status data =
            { s with
              mu := { s.mu with
                      queue := s.mu.queue ++ parts.take room
                      counters := { s.mu.counters with
                                    repliesFormed := count s.mu.counters.repliesFormed
                                    replyPartsDropped := countTimes s.mu.counters.replyPartsDropped (n - room) } } })

/-! ### Commands: mode, policy and timing (chapters 2, 3 and 4)

Each command is heard (accepted, its class allowed) and counted; `k` below is the state with that count. -/

/-- DELAY_SET, OFFSET_SET, TIME_SET and HOLDOVER_SET (R60, R61, R63, R84, R85): the value clamped and stored, NOW or pending for a
cadence number, a pending change replaced being counted; in FREE the seconds of site time stepped, the next slot moving with them;
a new limit already passed expires the holdover at once. TIME_SET lets late starts take place (R27), once its reply is queued (the
model's choice, log entry 40). In a reply a pending change that is absent is its presence byte alone (log entry 18). -/
def Obligations.TimingCommands : Prop :=
  ∀ (s k : State) (h : Header), s.Hears h.source .timing → k = s.heard h.source →
    (∀ ms d, d = max 1 (min 500 ms) → exec (.delaySet h ms) s = .next (State.reply
      { k with dt := { k.dt with nominalDelay := d * 27000 } } h.tag 0x14#8 .done (toBytes 4 d)))
    ∧ (∀ (v o : Int) (t : TimingParam) (c : DepartureCounters), o = max (-27000000) (min 27000000 v) →
        c = { s.dt.counters with
              pendingReplaced := countIf s.dt.pendingOffset.isSome s.dt.counters.pendingReplaced } →
        (t.choice = 0 → exec (.offsetSet h v t) s = .next (State.reply
          { k with dt := { k.dt with offset := o, pendingOffset := none, counters := c } } h.tag 0x13#8 .done
          (signed4 o ++ [0x00#8])))
        ∧ (t.choice = 1 → s.re.mode = .sfn → exec (.offsetSet h v t) s = .next (State.reply
          { k with dt := { k.dt with pendingOffset := some ⟨o, t.cadence⟩, counters := c } } h.tag 0x13#8 .done
          (signed4 s.dt.offset ++ [0x01#8] ++ signed4 o ++ toBytes 2 t.cadence.toNat)))
        ∧ (t.choice = 1 → s.re.mode = .mfn → exec (.offsetSet h v t) s = .next (k.reply h.tag 0x13#8 .state []))
        ∧ (1 < t.choice → exec (.offsetSet h v t) s = .next (k.reply h.tag 0x13#8 .range [])))
    ∧ (∀ v, (s.tu.ref = .free → exec (.timeSet h v) s = .next (State.settle (State.reply
          { k with
            tu := { k.tu with time := { k.tu.time with sec := v }, lastStep := siteDiff { k.tu.time with sec := v } k.tu.time }
            dt := { k.dt with
                    nextSlot := k.dt.nextSlot.map fun t => addTicks t (siteDiff { k.tu.time with sec := v } k.tu.time) } }
          h.tag 0x15#8 .done (toBytes 4 v.toNat ++ toBytes 4 s.tu.time.tick))))
        ∧ (s.tu.ref ≠ .free → exec (.timeSet h v) s = .next (State.settle (k.reply h.tag 0x15#8 .state []))))
    ∧ (∀ n d after, d = max 10 (min 86400 n) →
        after = (match s.tu.ref with | .holdover => .expired | .qualifying .holdover => .qualifying .expired | r => r) →
        ∃ u : State, exec (.holdoverSet h n) s = .next (u.reply h.tag 0x16#8 .done
            (toBytes 4 d ++ refBytes u.tu.ref ++ toBytes 4 s.tu.elapsed))
          ∧ u.tu = { s.tu with limit := d, ref := if d ≤ s.tu.elapsed then after else s.tu.ref }
          ∧ (u.tu.ref = s.tu.ref → u = { k with tu := u.tu })
          ∧ (u.tu.ref ≠ s.tu.ref → u = { k with tu := u.tu, su := u.su, mu := u.mu } ∧ k.FlagRaised u .refExpired))

/-- RATE_SET (R59, R61): out of 1,000,000..72,000,000, or with another timing, it is refused with RANGE; AT CADENCE in MFN mode or
before any rate, with STATE; AT CADENCE stores the pending change; NOW makes the rate the one in force, withdrawing a pending one,
while the pacer keeps its own until the next anchor; the first rate clears NO_RATE, the requested state being derived afresh, and
in MFN mode begins pacing at once (R58, R162). In a reply the pacer's rate and the pending change are optional values, absent ones
their presence byte alone (log entry 18). -/
def Obligations.RateSet : Prop :=
  ∀ (s k : State) (h : Header) (rate : Nat) (t : TimingParam) (c : DepartureCounters) (inUse : List Byte),
    s.Hears h.source .timing → k = s.heard h.source →
    c = { s.dt.counters with pendingReplaced := countIf s.dt.pendingRate.isSome s.dt.counters.pendingReplaced } →
    inUse = presence (fun p : Pacer => toBytes 4 p.rate) s.dt.pacer →
    (rate < 1000000 ∨ 72000000 < rate ∨ 1 < t.choice →
      exec (.rateSet h rate t) s = .next (k.reply h.tag 0x12#8 .range []))
    ∧ (1000000 ≤ rate → rate ≤ 72000000 →
      (t.choice = 1 → s.re.mode = .mfn ∨ s.dt.rate = none →
        exec (.rateSet h rate t) s = .next (k.reply h.tag 0x12#8 .state []))
      ∧ (∀ r, t.choice = 1 → s.re.mode = .sfn → s.dt.rate = some r → exec (.rateSet h rate t) s = .next (State.reply
        { k with dt := { k.dt with pendingRate := some ⟨rate, t.cadence⟩, counters := c } } h.tag 0x12#8 .done
        (toBytes 4 r ++ inUse ++ [0x01#8] ++ toBytes 4 rate ++ toBytes 2 t.cadence.toNat)))
      ∧ (∀ r, t.choice = 0 → s.dt.rate = some r → exec (.rateSet h rate t) s = .next (State.reply
        { k with
          dt := { k.dt with
                  rate := some rate, pendingRate := none, counters := c
                  reanchor := decide (s.re.mode = .mfn) || s.dt.reanchor } }
        h.tag 0x12#8 .done (toBytes 4 rate ++ inUse ++ [0x00#8])))
      ∧ (t.choice = 0 → s.dt.rate = none → ∃ u : State,
        exec (.rateSet h rate t) s = .next (u.reply h.tag 0x12#8 .done u.dt.rateBytes)
        ∧ u = { k with dt := u.dt, st := u.st, su := u.su, mu := u.mu }
        ∧ u.dt = { s.dt with
                   rate := some rate, pendingRate := none, counters := c
                   pacer := if s.re.mode = .mfn then some ⟨rate, 40608000000 / rate, 40608000000 % rate, 0⟩ else s.dt.pacer
                   reanchor := decide (s.re.mode = .sfn) && s.dt.reanchor
                   nextSlot := if s.re.mode = .mfn then some s.tu.time else s.dt.nextSlot }
        ∧ u.su.noRate = false
        ∧ u.su.requested = (if s.su.mgmt = .stop ∨ s.su.timing = true ∨ .stop ∈ s.su.factors.toList then .stop
                            else if s.su.mgmt = .hold ∨ .hold ∈ s.su.factors.toList then .hold else .run)))

/-- MODE_SET and FEED_POLICY_SET (R45, R46). A mode other than SFN and MFN is refused with RANGE, and a change of mode while the
gate is not STOPPED with STATE. A change empties the store, HELD slots counted "discarded" (R19), forgets past groups and packets
and the pending changes, and keeps selection and policy; MFN with a rate begins pacing at once (R58). A policy takes effect
together, the hold clamped to 1..600 s, the revert timer judged afresh, a revert that was pending staying so while its condition
holds, also under a longer hold (the model's choice, log entry 46); a preferred feed, or by the model's reading a policy (log
entry 16), beyond its choices is refused with RANGE. The pending changes that a change of mode empties are not counted as replaced
(log entry 31). -/
def Obligations.ModeAndPolicy : Prop :=
  ∀ (s k : State) (h : Header), s.Hears h.source .site → k = s.heard h.source →
    (∀ n, 1 < n → exec (.modeSet h n) s = .next (k.reply h.tag 0x10#8 .range []))
    ∧ (∀ n (m : Mode), (n = 0 ∧ m = .sfn) ∨ (n = 1 ∧ m = .mfn) →
      (s.su.effective ≠ .stopped → exec (.modeSet h n) s = .next (k.reply h.tag 0x10#8 .state []))
      ∧ (s.su.effective = .stopped → s.re.mode = m → exec (.modeSet h n) s = .next (k.reply h.tag 0x10#8 .done []))
      ∧ (s.su.effective = .stopped → s.re.mode ≠ m → ∃ u : State,
        exec (.modeSet h n) s = .next (u.reply h.tag 0x10#8 .done [])
        ∧ u = { k with fi := u.fi, ds := u.ds, re := u.re, dt := u.dt, st := u.st, su := u.su, mu := u.mu }
        ∧ u.fi = { s.fi with openGroups := ⟨none, none⟩ }
        ∧ (∀ f, u.ring f = { slots := (s.ring f).slots.filter (fun x => !x.isHeld), writeIndex := 0 } ∧ u.table f = []
            ∧ u.ds.accounts.get f =
                { s.ds.accounts.get f with
                  discarded := (s.ds.accounts.get f).discarded + BitVec.ofNat 48 ((s.ring f).slots.countP Slot.isHeld) })
        ∧ u.re = { s.re with
                   mode := m, candidate := none, releasing := none, lastStarted := none, lastGroupStart := none
                   readIndex := ⟨0, 0⟩, lastReleasedArrival := none }
        ∧ u.dt.rate = s.dt.rate ∧ u.dt.offset = s.dt.offset ∧ u.dt.nominalDelay = s.dt.nominalDelay
        ∧ u.dt.pendingRate = none ∧ u.dt.pendingOffset = none ∧ u.dt.counters = s.dt.counters
        ∧ (m = .sfn ∨ s.dt.rate = none → u.dt.nextSlot = none)
        ∧ (∀ r, m = .mfn → s.dt.rate = some r → u.dt.nextSlot = some s.tu.time ∧ u.dt.pacer = some (pacerFor r))
        ∧ (m = .mfn → u.su.timing = false)
        ∧ (m = .sfn → (u.su.timing = true ↔
            s.tu.ref = .free ∨ ((∃ b, s.tu.ref = .qualifying b) ∧ s.tu.lockedSincePowerOn = false)))))
    ∧ (∀ p : FeedPolicyParams, 1 < p.preferred ∨ 1 < p.policy →
        exec (.feedPolicySet h p) s = .next (k.reply h.tag 0x11#8 .range []))
    ∧ (∀ (p : FeedPolicyParams) (f : Feed) (cond : Bool) (hold : Nat) (timer : Option SiteTime),
        (p.preferred = 0 ∧ f = .a) ∨ (p.preferred = 1 ∧ f = .b) → p.policy ≤ 1 →
        cond = decide (p.policy = 0 ∧ f ≠ s.re.selected ∧ s.linkOf f = .locked) → hold = max 1 (min 600 p.hold) →
        timer = (if cond then (if s.re.preferred = f then s.re.revertTimer.or (some s.tu.time) else some s.tu.time)
                 else none) →
        ∃ u : State, exec (.feedPolicySet h p) s = .next (u.reply h.tag 0x11#8 .done
            (toBytes 1 p.preferred ++ toBytes 1 p.policy ++ toBytes 4 hold ++ toBytes 4 p.bridgingA ++ toBytes 4 p.bridgingB
              ++ toBytes 4 p.bridgingL))
          ∧ u = { k with
                  fi := { s.fi with framers := ⟨{ s.framer .a with bridgingSetting := p.bridgingA },
                                                { s.framer .b with bridgingSetting := p.bridgingB },
                                                { s.framer .l with bridgingSetting := p.bridgingL }⟩ }
                  re := u.re }
          ∧ u.re = { s.re with
                     preferred := f, revertive := decide (p.policy = 0), revertHold := hold, revertTimer := timer
                     revertPending := (cond && s.re.revertPending)
                       || timer.any fun t => decide ((hold * 27000000 : Nat) ≤ siteDiff s.tu.time t) })

/-! ### Commands: tables, reports, settings, flags (chapters 5, 9, 10 and 11) -/

/-- STREAM_WRITE and STREAM_ERASE (R97, R98, R99). The checks of a write in their order: RANGE, NO_SPACE for a new entry in a
table of 128, CONFLICT with the produced PID of another PASS entry (R95), CONFLICT with the law of component entries (R96). The
entry written has the fields carried and keeps an existing entry's continuity counts and counters, a new one starting absent and
at 0; no other entry changes. An erase removes its entry alone and reports it. A flag byte is 0 for yes and 1 for no (log entry
16). -/
def Obligations.StreamWriteAndErase : Prop :=
  ∀ (s k : State) (h : Header) (usable : Nat → Prop), s.Hears h.source .tables → k = s.heard h.source →
    usable = (fun x => x ≤ 8191 ∧ x ≠ 8180 ∧ x ≠ 8181 ∧ x ≠ 8182 ∧ x ≠ 8191) →
    (∀ (p : StreamWriteParams) (ranged conflict unlawful : Prop) (e : StreamEntry),
      ranged = (usable p.inPid ∧ (∀ o, p.outPid = some o → usable o) ∧ p.action ≤ 1 ∧ p.managed ≤ 1 ∧ p.carrier ≤ 1
        ∧ p.check ≤ 1) →
      conflict = (p.action = 0 ∧ ∃ x ∈ s.st.entries, x.inPid ≠ p.inPid ∧ x.action = .pass
        ∧ x.outPid.getD x.inPid = p.outPid.getD p.inPid) →
      unlawful = ((∃ c : Fin 4, (s.channel c).state ≠ .disabled ∧ ∃ j : Fin 4, (s.channel c).pids[j.val]? = some p.inPid)
        ∧ ¬ (p.action = 0 ∧ p.managed = 0 ∧ p.carrier = 1)) →
      e = { inPid := p.inPid, action := if p.action = 0 then .pass else .drop, outPid := p.outPid
            managed := decide (p.managed = 0), carrier := decide (p.carrier = 0), check := decide (p.check = 0)
            lastIn := (s.st.entry? p.inPid).bind (·.lastIn), lastOut := (s.st.entry? p.inPid).bind (·.lastOut)
            released := ((s.st.entry? p.inPid).map (·.released)).getD 0
            dropped := ((s.st.entry? p.inPid).map (·.dropped)).getD 0
            errors := ((s.st.entry? p.inPid).map (·.errors)).getD 0 } →
      (¬ ranged → exec (.streamWrite h p) s = .next (k.reply h.tag 0x20#8 .range []))
      ∧ (ranged → s.st.entry? p.inPid = none → 128 ≤ s.st.entries.length →
          exec (.streamWrite h p) s = .next (k.reply h.tag 0x20#8 .noSpace []))
      ∧ (ranged → (s.st.entry? p.inPid ≠ none ∨ s.st.entries.length < 128) →
          (conflict ∨ unlawful → exec (.streamWrite h p) s = .next (k.reply h.tag 0x20#8 .conflict []))
          ∧ (¬ conflict → ¬ unlawful → ∃ u : State,
            exec (.streamWrite h p) s = .next (u.reply h.tag 0x20#8 .done (entryBytes e))
            ∧ u = { k with st := { s.st with entries := u.st.entries } } ∧ u.st.entry? p.inPid = some e
            ∧ ∀ q, q ≠ p.inPid → u.st.entry? q = s.st.entry? q)))
    ∧ (∀ p : Nat,
      (¬ usable p → exec (.streamErase h p) s = .next (k.reply h.tag 0x21#8 .range []))
      ∧ (usable p → s.st.entry? p = none → exec (.streamErase h p) s = .next (k.reply h.tag 0x21#8 .notFound []))
      ∧ (∀ e, usable p → s.st.entry? p = some e →
        ((∃ c : Fin 4, (s.channel c).state ≠ .disabled ∧ ∃ j : Fin 4, (s.channel c).pids[j.val]? = some p) →
          exec (.streamErase h p) s = .next (k.reply h.tag 0x21#8 .conflict []))
        ∧ ((∀ c : Fin 4, (s.channel c).state = .disabled ∨ ∀ j : Fin 4, (s.channel c).pids[j.val]? ≠ some p) →
          exec (.streamErase h p) s = .next (State.reply
            { k with st := { s.st with entries := s.st.entries.filter fun x => x.inPid != p } } h.tag 0x21#8 .done
            (entryBytes e)))))

/-- A report changes nothing but the Management Unit's counters and the monitor queue (R100, R125, R146, R183, R184, R193):
STREAM_READ, CHANNEL_READ, CLIP_DIRECTORY_READ, TRACE_READ, STATUS_READ, and COUNTERS_READ without clear. With clear,
COUNTERS_READ of a block, or ALL, sets every counter it reports to 0 but the accounting counters of DS, and touches nothing else;
its own reply is formed, and counted, after that (log entry 34). Refused with RANGE are a PID above 8,191 or reserved (R100), a
channel above 3 (6.7), a clip id outside 1..65,535 (R146), and a choice byte that names neither the one nor ALL or MATCH_TABLE
(the model's reading, log entry 16); NOT_FOUND answers a PID without an entry and an id that no record other than FREE bears. The
data lie as the model chose where 11.6 leaves it open (log entries 18, 19 and 34). -/
def Obligations.Reports : Prop :=
  ∀ (s k : State) (h : Header) (usable : Nat → Prop), s.Hears h.source .reporting → k = s.heard h.source →
    usable = (fun x => x ≤ 8191 ∧ x ≠ 8180 ∧ x ≠ 8181 ∧ x ≠ 8182 ∧ x ≠ 8191) →
    (∀ p, exec (.streamRead h 1 p) s = .next (k.reply h.tag 0x22#8 .done s.st.allBytes))
    ∧ (∀ p e, usable p → s.st.entry? p = some e →
        exec (.streamRead h 0 p) s = .next (k.reply h.tag 0x22#8 .done (entryBytes e)))
    ∧ (∀ p, usable p → s.st.entry? p = none → exec (.streamRead h 0 p) s = .next (k.reply h.tag 0x22#8 .notFound []))
    ∧ (∀ p, ¬ usable p → exec (.streamRead h 0 p) s = .next (k.reply h.tag 0x22#8 .range []))
    ∧ (∀ c, 3 < c → exec (.channelRead h 0 c) s = .next (k.reply h.tag 0x32#8 .range []))
    ∧ (∀ id, h.source = .portL → id < 1 ∨ 65535 < id →
        exec (.clipDirectoryRead h 0 id) s = .next (k.reply h.tag 0x44#8 .range []))
    ∧ (∀ choice x, 1 < choice → exec (.streamRead h choice x) s = .next (k.reply h.tag 0x22#8 .range [])
        ∧ exec (.channelRead h choice x) s = .next (k.reply h.tag 0x32#8 .range [])
        ∧ (h.source = .portL → exec (.clipDirectoryRead h choice x) s = .next (k.reply h.tag 0x44#8 .range [])))
    ∧ (∀ c : Fin 4, exec (.channelRead h 0 c.val) s = .next (k.reply h.tag 0x32#8 .done (s.channelBytes c)))
    ∧ (∀ c, exec (.channelRead h 1 c) s = .next (k.reply h.tag 0x32#8 .done (s.sc.cueMatches.toList.flatMap matchBytes)))
    ∧ (∀ id i, h.source = .portL → 1 ≤ id → id ≤ 65535 → s.cm.find id = some i →
        exec (.clipDirectoryRead h 0 id) s = .next (k.reply h.tag 0x44#8 .done (clipBytes i.val (s.cm.record i))))
    ∧ (∀ id, h.source = .portL → 1 ≤ id → id ≤ 65535 → s.cm.find id = none →
        exec (.clipDirectoryRead h 0 id) s = .next (k.reply h.tag 0x44#8 .notFound []))
    ∧ (∀ id, h.source = .portL → exec (.clipDirectoryRead h 1 id) s = .next (k.reply h.tag 0x44#8 .done s.cm.allBytes))
    ∧ (∀ i n, 1 ≤ n → n ≤ 512 → (i < s.su.trace.samples.length ∨ (s.su.trace.samples = [] ∧ i = 0)) →
        exec (.traceRead h i n) s = .next (k.reply h.tag 0x5A#8 .done (s.su.trace.readBytes i n)))
    ∧ (∀ i n, n < 1 ∨ 512 < n ∨ (s.su.trace.samples ≠ [] ∧ s.su.trace.samples.length ≤ i) ∨ (s.su.trace.samples = [] ∧ i ≠ 0) →
        exec (.traceRead h i n) s = .next (k.reply h.tag 0x5A#8 .range []))
    ∧ exec (.statusRead h) s = .next (k.reply h.tag 0x60#8 .done s.statusBytes)
    ∧ (∀ n b, allBlocks[n]? = some b → exec (.countersRead h n 1) s = .next (k.reply h.tag 0x5B#8 .done (k.blockBytes b)))
    ∧ exec (.countersRead h 10 1) s = .next (k.reply h.tag 0x5B#8 .done (allBlocks.flatMap k.blockBytes))
    ∧ (∀ n c, 10 < n ∨ 1 < c → exec (.countersRead h n c) s = .next (k.reply h.tag 0x5B#8 .range []))
    ∧ (∀ (fi : FeedIntake) (st : StreamTable) (sc : SpliceController) (cleared : Block → State),
      fi = { s.fi with framers := ⟨{ s.framer .a with counters := .zero }, { s.framer .b with counters := .zero },
                                   { s.framer .l with counters := .zero }⟩ } →
      st = { s.st with
             entries := s.st.entries.map (fun e => { e with released := 0, dropped := 0, errors := 0 })
             defaultPasses := 0, defaultDrops := 0, shadowedDrops := 0 } →
      sc = { s.sc with channels := s.sc.channels.map fun ch => { ch with counters := .zero } } →
      cleared = (fun b => match b with
        | .fi => { k with fi := fi }
        | .ds => k
        | .re => { k with re := { s.re with counters := .zero } }
        | .dt => { k with dt := { s.dt with counters := .zero } }
        | .tu => { k with tu := { s.tu with counters := .zero } }
        | .st => { k with st := st }
        | .sc => { k with sc := sc }
        | .cm => { k with cm := { s.cm with counters := .zero } }
        | .su => { k with su := { s.su with counters := .zero } }
        | .mu => { k with mu := { s.mu with counters := .zero } }) →
      (∀ n b, [Block.fi, .ds, .re, .dt, .tu, .st, .sc, .cm, .su, .mu][n]? = some b →
        exec (.countersRead h n 0) s = .next ((cleared b).reply h.tag 0x5B#8 .done (k.blockBytes b)))
      ∧ exec (.countersRead h 10 0) s = .next (State.reply
          { k with
            fi := fi, re := (cleared .re).re, dt := (cleared .dt).dt, tu := (cleared .tu).tu, st := st, sc := sc
            cm := (cleared .cm).cm, su := (cleared .su).su, mu := (cleared .mu).mu }
          h.tag 0x5B#8 .done (allBlocks.flatMap k.blockBytes)))

/-- ADDRESS_WRITE, AUTHORITY_WRITE, SCAN_SET and DEFAULT_ACTION_SET store what they carry and answer it, and refuse a value out of
range (R101, R174, R194, R195). An empty mask refuses every feed command with AUTHORITY, and no mask governs port L (R188). -/
def Obligations.SettingsStored : Prop :=
  ∀ (s k : State) (h : Header), k = s.heard h.source →
    (s.Hears h.source .site → ∀ a b,
      (a ≤ 65534 → b ≤ 65534 → exec (.addressWrite h a b) s = .next (State.reply
        { k with mu := { k.mu with group0 := a, group1 := b } } h.tag 0x61#8 .done
        (toBytes 2 s.mu.unitAddress.toNat ++ toBytes 2 a ++ toBytes 2 b)))
      ∧ (65534 < a ∨ 65534 < b → exec (.addressWrite h a b) s = .next (k.reply h.tag 0x61#8 .range [])))
    ∧ (s.Hears h.source .portLOnly → ∀ m,
      (m < 64 → exec (.authorityWrite h m) s = .next (State.reply
        { k with mu := { k.mu with authority := BitVec.ofNat 6 m } } h.tag 0x62#8 .done (toBytes 1 m)))
      ∧ (64 ≤ m → exec (.authorityWrite h m) s = .next (k.reply h.tag 0x62#8 .range [])))
    ∧ (∀ c : AuthorityClass, s.mu.allows .portL c = true ∧ (s.mu.authority = 0#6 → s.mu.allows .feed c = false))
    ∧ (s.Hears h.source .gate → ∀ n,
      (n ≤ 65535 → exec (.scanSet h n) s = .next (State.reply
        { k with su := { k.su with scanSetting := n } } h.tag 0x52#8 .done
        (toBytes 2 n ++ toBytes 2 (if n = 0 then 100 else if n ≤ 200 then n * 10 else 2000)
          ++ toBytes 4 s.su.scanNumber.toNat)))
      ∧ (65535 < n → exec (.scanSet h n) s = .next (k.reply h.tag 0x52#8 .range [])))
    ∧ (s.Hears h.source .tables → ∀ n,
      (∀ a : Action, (n = 0 ∧ a = .pass) ∨ (n = 1 ∧ a = .drop) → exec (.defaultActionSet h n) s = .next (State.reply
        { k with st := { k.st with default := a } } h.tag 0x23#8 .done (toBytes 1 n)))
      ∧ (1 < n → exec (.defaultActionSet h n) s = .next (k.reply h.tag 0x23#8 .range [])))

/-- EVENT_READ_CLEAR answers the flags set at its execution point and clears those named, the others keeping their value;
EVENT_MASK_WRITE makes the 26 masks those carried. ALARM follows at once, and neither queues a notice (R171, R175, R176). A flag
beyond 25, or a mask that is neither masked (0) nor unmasked (1), is refused with RANGE (log entry 18). A notice is a packet of
188 bytes with the unit address, the flag's number, the site time and its CRC (R192, 11.6; bit 5 of byte 1 by log entry 42), and
raising a flag touches its own bit alone (R170). -/
def Obligations.FlagsAndMasks : Prop :=
  (∀ (s k : State) (h : Header), s.Hears h.source .reporting → k = s.heard h.source →
    (∀ n, n < 2 ^ 26 → ∃ u : State,
      exec (.eventReadClear h n) s = .next (u.reply h.tag 0x53#8 .done (toBytes 4 s.su.flags.toNat))
      ∧ u = { k with su := { s.su with flags := u.su.flags, alarm := u.su.alarm } }
      ∧ (∀ i, i < 26 → u.su.flags.getLsbD i = (s.su.flags.getLsbD i && !n.testBit i))
      ∧ (u.su.alarm = true ↔ ∃ i, u.su.flags.getLsbD i = true ∧ u.su.unmasked.getLsbD i = true))
    ∧ (∀ n, 2 ^ 26 ≤ n → exec (.eventReadClear h n) s = .next (k.reply h.tag 0x53#8 .range []))
    ∧ (∀ ms : List Nat, ms.length = 26 → (∀ m ∈ ms, m ≤ 1) → ∃ u : State,
      exec (.eventMaskWrite h ms) s = .next (u.reply h.tag 0x54#8 .done
        (ms.flatMap (toBytes 1) ++ toBytes 4 s.su.flags.toNat))
      ∧ u = { k with su := { s.su with unmasked := u.su.unmasked, alarm := u.su.alarm } }
      ∧ (∀ i (hi : i < ms.length), u.su.unmasked.getLsbD i = decide (ms[i] = 1))
      ∧ (u.su.alarm = true ↔ ∃ i, u.su.flags.getLsbD i = true ∧ u.su.unmasked.getLsbD i = true))
    ∧ (∀ ms : List Nat, ms.length ≠ 26 ∨ (∃ m ∈ ms, 1 < m) →
        exec (.eventMaskWrite h ms) s = .next (k.reply h.tag 0x54#8 .range [])))
  ∧ (∀ (unit : BitVec 12) (n : Nat) (now : SiteTime) (body : List Byte),
    body = [0x02#8] ++ toBytes 2 unit.toNat ++ toBytes 1 n ++ toBytes 4 now.sec.toNat ++ toBytes 4 now.tick →
    noticePacket unit n now =
        [0x47#8, 0x5F#8, 0xF6#8, 0x10#8] ++ body ++ toBytes 4 (crc32 body).toNat ++ List.replicate 168 0xFF#8
      ∧ (noticePacket unit n now).length = 188)
  ∧ (∀ (f : EventFlag) (flags : BitVec 26), (flags ||| f.bit).getLsbD f.number = true
    ∧ ∀ i, i ≠ f.number → (flags ||| f.bit).getLsbD i = flags.getLsbD i)

/-- SNAPSHOT_TAKE, SNAPSHOT_READ, TRACE_CONFIGURE, TRACE_START and TRACE_STOP (R178 to R181): the snapshot taken whatever its
state and then HELD, read to READ, and NOT_FOUND while EMPTY; a configuration written, a start and a stop move the trace between
its states and are refused with STATE where it is WAITING or TRACE_RUNNING, a start also without a configuration. The record and
the configuration are laid out in a reply as the model chose (log entry 18). -/
def Obligations.SnapshotAndTrace : Prop :=
  ∀ (s k : State) (h : Header) (busy : Prop), s.Hears h.source .reporting → k = s.heard h.source →
    busy = (s.su.trace.state = .waiting ∨ s.su.trace.state = .running) →
    (∃ r : Snapshot, exec (.snapshotTake h) s = .next (State.reply
        { k with su := { s.su with snapshot := .held r } } h.tag 0x55#8 .done (snapshotBytes r))
      ∧ r.taking = .command ∧ r.time = s.tu.time ∧ r.scanNumber = s.su.scanNumber ∧ r.selected = s.re.selected
      ∧ r.fillA = (s.ring .a).slots.length ∧ r.fillB = (s.ring .b).slots.length ∧ r.requested = s.su.requested
      ∧ r.effective = s.su.effective ∧ r.ref = s.tu.ref ∧ r.lastPhase = s.tu.lastPhase ∧ r.flags = s.su.flags
      ∧ r.tableA.records = (s.table .a).length ∧ r.tableB.records = (s.table .b).length
      ∧ r.channels = s.sc.channels.toList.map (fun ch => (ch.state, ch.list.length)))
    ∧ (s.su.snapshot = .empty → exec (.snapshotRead h) s = .next (k.reply h.tag 0x56#8 .notFound []))
    ∧ (∀ r, s.su.snapshot = .held r → exec (.snapshotRead h) s = .next (State.reply
        { k with su := { s.su with snapshot := .read r } } h.tag 0x56#8 .done (snapshotBytes r ++ [0x01#8])))
    ∧ (∀ r, s.su.snapshot = .read r →
        exec (.snapshotRead h) s = .next (k.reply h.tag 0x56#8 .done (snapshotBytes r ++ [0x02#8])))
    ∧ (∀ (p : TraceParams) (qs : List Quantity) (flag : Option EventFlag) (c : TraceConfig),
        1 ≤ qs.length → qs.length ≤ 4 → p.quantities = qs.map Quantity.number → p.divider ≤ 7 → p.mode ≤ 1 →
        ((p.start = 0 ∧ flag = none) ∨ (∃ f, p.start = 1 ∧ p.flag = f.number ∧ flag = some f)) →
        c = { quantities := qs, divider := p.divider, oneShot := decide (p.mode = 1), onFlag := flag } →
        (busy → exec (.traceConfigure h p) s = .next (k.reply h.tag 0x57#8 .state []))
        ∧ (¬ busy → exec (.traceConfigure h p) s = .next (State.reply
            { k with
              su := { s.su with
                      trace := { s.su.trace with config := some c, state := .stopped, samples := [], samplesTaken := 0#32 } } }
            h.tag 0x57#8 .done (traceConfigBytes c))))
    ∧ (∀ p : TraceParams, p.quantities.length < 1 ∨ 4 < p.quantities.length ∨ (∃ q ∈ p.quantities, 13 < q) ∨ 7 < p.divider
          ∨ 1 < p.mode ∨ 1 < p.start ∨ (p.start = 1 ∧ 25 < p.flag) →
        exec (.traceConfigure h p) s = .next (k.reply h.tag 0x57#8 .range []))
    ∧ (busy ∨ s.su.trace.config = none → exec (.traceStart h) s = .next (k.reply h.tag 0x58#8 .state []))
    ∧ (∀ c n, ¬ busy → s.su.trace.config = some c →
        n = { s.su.counters with traceStarts := count s.su.counters.traceStarts } →
        (c.onFlag = none → exec (.traceStart h) s = .next (State.reply
          { k with
            su := { s.su with
                    counters := n
                    trace := { config := some c, state := .running, samples := [], samplesTaken := 0#32, dividerCount := 0
                               nullSlots := 0, gapPositions := 0 } } }
          h.tag 0x58#8 .done [0x02#8]))
        ∧ (c.onFlag ≠ none → exec (.traceStart h) s = .next (State.reply
          { k with
            su := { s.su with
                    counters := n, trace := { s.su.trace with state := .waiting, samples := [], samplesTaken := 0#32 } } }
          h.tag 0x58#8 .done [0x01#8])))
    ∧ (busy → exec (.traceStop h) s = .next (State.reply
        { k with su := { s.su with trace := { s.su.trace with state := .stopped } } } h.tag 0x59#8 .done
        (toBytes 1 s.su.trace.state.number ++ toBytes 2 s.su.trace.samples.length)))
    ∧ (¬ busy → exec (.traceStop h) s = .next (k.reply h.tag 0x59#8 .done
        (toBytes 1 s.su.trace.state.number ++ toBytes 2 s.su.trace.samples.length)))

/-- GATE_REQUEST and DIAG_ACTION_WRITE (R161, R163, R164, R172, R173): the MGMT factor becomes the value carried, or a condition's
action is stored and its factor derived from the condition's last value; the requested state follows from the factors at once; the
effective state leaves STOPPED for STARTING and STARTING for STOPPED at once, and RUNNING and HOLDING at once only while no next
slot time is held; each change of it is counted and raises GATE_CHANGED, and on entering STARTING the last output continuity of
every Stream Table entry becomes absent (R93). The value already in force changes nothing. The factors set and the action table
with its values are laid out in a reply as the model chose (log entry 18). -/
def Obligations.GateCommands : Prop :=
  ∀ (s k : State) (h : Header) (follows : State → Prop), s.Hears h.source .gate → k = s.heard h.source →
    follows = (fun u => u = { k with st := u.st, su := u.su, mu := u.mu }
      ∧ u.su.requested = (if u.su.mgmt = .stop ∨ s.su.noRate = true ∨ s.su.timing = true ∨ .stop ∈ u.su.factors.toList then .stop
                          else if u.su.mgmt = .hold ∨ .hold ∈ u.su.factors.toList then .hold else .run)
      ∧ (s.su.effective = .stopped ∨ s.su.effective = .starting →
          u.su.effective = if u.su.requested = .stop then .stopped else .starting)
      ∧ (s.su.effective = .running ∨ s.su.effective = .holding →
          u.su.effective = if s.dt.nextSlot ≠ none then s.su.effective
                           else match u.su.requested with | .run => .running | .hold => .holding | .stop => .stopped)
      ∧ u.st = (if u.su.effective = .starting ∧ s.su.effective ≠ .starting
                then { s.st with entries := s.st.entries.map fun e => { e with lastOut := none } } else s.st)
      ∧ (u.su.effective = s.su.effective →
          u.mu = k.mu ∧ u.su.flags = s.su.flags ∧ u.su.counters = s.su.counters ∧ u.su.alarm = s.su.alarm)
      ∧ (u.su.effective ≠ s.su.effective → u.flagSet .gateChanged = true
          ∧ u.su.counters.gateChanges = count s.su.counters.gateChanges)
      ∧ u.su.conditions = s.su.conditions ∧ u.su.unmasked = s.su.unmasked ∧ u.su.snapshot = s.su.snapshot) →
    (∀ n (g : Gate), (n = 0 ∧ g = .run) ∨ (n = 1 ∧ g = .hold) ∨ (n = 2 ∧ g = .stop) → ∃ u : State,
      exec (.gateRequest h n) s = .next (u.reply h.tag 0x50#8 .done (toBytes 1 n ++ u.su.gateBytes))
      ∧ (s.su.mgmt = g → u = k)
      ∧ (s.su.mgmt ≠ g → follows u ∧ u.su.mgmt = g ∧ u.su.actions = s.su.actions ∧ u.su.factors = s.su.factors))
    ∧ (∀ n, 2 < n → exec (.gateRequest h n) s = .next (k.reply h.tag 0x50#8 .range []))
    ∧ (∀ (i : Fin 9) n (a : DiagAction), (n = 0 ∧ a = .continue) ∨ (n = 1 ∧ a = .hold) ∨ (n = 2 ∧ a = .stop) → ∃ u : State,
      exec (.diagActionWrite h i.val n) s = .next (u.reply h.tag 0x51#8 .done u.su.actionBytes)
      ∧ follows u ∧ u.su.mgmt = s.su.mgmt ∧ u.su.actions = setAt s.su.actions i a
      ∧ u.su.factors = setAt s.su.factors i (if getAt s.su.conditions i then a else .continue))
    ∧ (∀ i n, 8 < i ∨ 2 < n → exec (.diagActionWrite h i n) s = .next (k.reply h.tag 0x51#8 .range []))

/-- RESTART (R196): the DONE reply stands last in the queue behind the packet that port M is sending, which the model takes to be
the head (log entry 27); the others are dropped and counted by their kind; the restart-pending mark is set, and every command that
follows is discarded, uncounted (log entry 27). A code not in the catalogue is answered UNKNOWN, and a feed command whose class
the mask does not hold, or that is taken from port L only, AUTHORITY; each is counted and raises MGMT_REFUSED (R188, R190). -/
def Obligations.RestartAndRefusals : Prop :=
  ∀ (s k : State) (h : Header), s.lines.resetHeld = false → s.mu.restartPending = false → k = s.heard h.source →
    (s.mu.allows h.source .site = true → ∃ t : State, exec (.restart h) s = .next t ∧ t = { k with mu := t.mu }
      ∧ t.mu.restartPending = true
      ∧ (∃ p, t.mu.queue = s.mu.queue.take 1 ++ [⟨.reply, p⟩]
          ∧ p = replyPacket s.mu.unitAddress h.tag 0x63#8 0 0 true [])
      ∧ t.mu.counters.repliesFormed = count s.mu.counters.repliesFormed
      ∧ t.mu.counters.replyPartsDropped = Nat.repeat count ((s.mu.queue.drop 1).countP fun p => p.kind = .reply)
          s.mu.counters.replyPartsDropped
      ∧ t.mu.counters.noticesDropped = Nat.repeat count ((s.mu.queue.drop 1).countP fun p => p.kind = .notice)
          s.mu.counters.noticesDropped
      ∧ t.mu.authority = s.mu.authority ∧ t.mu.continuity = s.mu.continuity)
    ∧ (∀ (h' : Header) c, State.manage { s with mu := { s.mu with restartPending := true } } h' c
        = { s with mu := { s.mu with restartPending := true } })
    ∧ (∀ code, classOfCode code = none → ∃ u : State,
      exec (.unknownCommand h code) s = .next (u.reply h.tag code .unknown [])
      ∧ u = { k with su := u.su, mu := u.mu }
      ∧ u.RaisedFrom s.su
          { k.mu with counters := { k.mu.counters with unknownCommands := count k.mu.counters.unknownCommands } } .mgmtRefused)
    ∧ (∀ c cls, classOfCode (codeOf c) = some cls → h.source = .feed →
        (∀ b, cls.bit? = some b → s.mu.authority.getLsbD b = false) → ∃ u : State,
      s.manage h c = u.reply h.tag (codeOf c) .authority [] ∧ u = { k with su := u.su, mu := u.mu }
      ∧ u.RaisedFrom s.su
          { k.mu with
            counters := { k.mu.counters with authorityRefusals := count k.mu.counters.authorityRefusals } } .mgmtRefused)

/-! ### Splice channels and clips (chapters 6, 7 and 8) -/

/-- CHANNEL_SET and CHANNEL_DISABLE (R123, R124). A set is checked for RANGE, STATE and, with enabled yes, CONFLICT; it replaces
the configuration, an enabled channel entering or staying in NETWORK, where its arming test follows (R113), a disabled one losing
its list, each cue counted as cancelled. A disable takes the channel to DISABLED by way of its state: an armed cue is disarmed
(R114), a splice on air ends by immediate return (R122), and the list is emptied. The cue so ended counts as cancelled too, and on
a channel already DISABLED nothing changes, a last released primary PTS it still holds included (the model's reading, log entry
23). -/
def Obligations.ChannelCommands : Prop :=
  ∀ (s k : State) (h : Header) (c : Fin 4) (ch : Channel), s.Hears h.source .splice → k = s.heard h.source →
    ch = s.channel c →
    (∀ (p : ChannelSetParams) (ranged conflict : Prop) (primary : Option Pts),
      p.channel = c.val →
      ranged = (p.enabled ≤ 1 ∧ 1 ≤ p.pids.length ∧ p.pids.length ≤ 4 ∧ usablePid p.cuePid = true
        ∧ ∀ x ∈ p.pids, usablePid x = true) →
      conflict = (¬ p.pids.Nodup ∨ p.cuePid ∈ p.pids
        ∨ (∃ d, d ≠ c ∧ (s.channel d).state ≠ .disabled ∧ ∃ x, (x = p.cuePid ∨ x ∈ p.pids) ∧ x ∈ (s.channel d).pids)
        ∨ (∃ d, d ≠ c ∧ (s.channel d).state ≠ .disabled ∧ ∃ x ∈ p.pids, (s.channel d).cuePid = some x)
        ∨ (∃ x ∈ p.pids, ∀ e, s.st.entry? x = some e →
            ¬ (e.action = .pass ∧ e.managed = true ∧ e.carrier = false))) →
      primary = (if ch.pids.head? = p.pids.head? then ch.lastPts else none) →
      (¬ ranged → exec (.channelSet h p) s = .next (k.reply h.tag 0x30#8 .range []))
      ∧ (ranged → ch.state = .armed ∨ ch.state = .out ∨ ch.state = .returning →
          exec (.channelSet h p) s = .next (k.reply h.tag 0x30#8 .state []))
      ∧ (ranged → ch.state = .disabled ∨ ch.state = .network → p.enabled = 0 → conflict →
          exec (.channelSet h p) s = .next (k.reply h.tag 0x30#8 .conflict []))
      ∧ (ranged → ch.state = .disabled ∨ ch.state = .network → p.enabled = 0 → ¬ conflict →
          (ch.state = .network → ∀ q rest, ch.list = q :: rest → s.cm.findReady q.clip = none) → ∃ u : State,
          exec (.channelSet h p) s = .next (u.reply h.tag 0x30#8 .done ((u.channel c).configBytes ++ [0x01#8]))
          ∧ u = { k with
                  sc := { s.sc with
                          channels := setAt s.sc.channels c
                            { ch with
                              enabled := true, cuePid := some p.cuePid, pids := p.pids, state := .network
                              list := if ch.state = .disabled then [] else ch.list
                              lastPts := if ch.state = .disabled then none else primary } } })
      ∧ (∀ q rest i, ranged → ch.state = .network → p.enabled = 0 → ¬ conflict → ch.list = q :: rest →
          s.cm.findReady q.clip = some i → ∃ u : State,
          exec (.channelSet h p) s = .next (u.reply h.tag 0x30#8 .done ((u.channel c).configBytes ++ [0x02#8]))
          ∧ u = { k with
                  sc := { s.sc with
                          channels := setAt s.sc.channels c
                            { ch with
                              enabled := true, cuePid := some p.cuePid, pids := p.pids, lastPts := primary
                              list := rest, state := .armed, active := some q.armed } }
                  cm := u.cm }
          ∧ s.cm.Held u.cm i)
      ∧ (ranged → ch.state = .disabled ∨ ch.state = .network → p.enabled = 1 → ∃ u : State,
          exec (.channelSet h p) s = .next (u.reply h.tag 0x30#8 .done ((u.channel c).configBytes ++ [0x00#8]))
          ∧ u = { k with
                  sc := { s.sc with
                          channels := setAt s.sc.channels c
                            { ch with
                              enabled := false, cuePid := some p.cuePid, pids := p.pids, state := .disabled, list := []
                              lastPts := primary
                              counters := { ch.counters with
                                            cancelled := countBy ch.counters.cancelled ch.list.length } } } }))
    ∧ (∀ p : ChannelSetParams, 3 < p.channel → exec (.channelSet h p) s = .next (k.reply h.tag 0x30#8 .range []))
    ∧ (ch.state = .disabled → exec (.channelDisable h c.val) s = .next (k.reply h.tag 0x31#8 .done
        ([0x00#8] ++ toBytes 1 ch.list.length)))
    ∧ (ch.state = .network → exec (.channelDisable h c.val) s = .next (State.reply
        { k with
          sc := { s.sc with
                  channels := setAt s.sc.channels c
                    { ch with
                      state := .disabled, list := [], lastPts := none
                      counters := { ch.counters with cancelled := countBy ch.counters.cancelled ch.list.length } } } }
        h.tag 0x31#8 .done ([0x01#8] ++ toBytes 1 ch.list.length)))
    ∧ (ch.state = .armed ∨ ch.state = .out ∨ ch.state = .returning → ∃ u : State,
        exec (.channelDisable h c.val) s = .next
          (u.reply h.tag 0x31#8 .done (toBytes 1 ch.state.number ++ toBytes 1 ch.list.length))
        ∧ u = { k with sc := u.sc, cm := u.cm, su := u.su, mu := u.mu }
        ∧ (u.channel c).state = .disabled ∧ (u.channel c).list = [] ∧ (u.channel c).active = none
        ∧ (u.channel c).lastPts = none ∧ (u.channel c).pids = ch.pids ∧ (u.channel c).cuePid = ch.cuePid
        ∧ (u.channel c).counters.cancelled = countBy ch.counters.cancelled (ch.list.length + 1)
        ∧ (∀ d, d ≠ c → u.channel d = s.channel d)
        ∧ (∀ j : Fin 4, (ch.state = .armed ∨ getAt ch.subst j ≠ .returned) →
            (getAt u.cm.prefetch (componentIndex c j)).queue = [])
        ∧ (∀ a i, ch.active = some a → s.cm.find a.clip = some i → (s.cm.record i).state = .ready →
            u.cm.record i = { s.cm.record i with use := (s.cm.record i).use - 1 } ∧ u.cm.freeList = s.cm.freeList)
        ∧ (∀ a i, ch.active = some a → s.cm.find a.clip = some i → (s.cm.record i).state = .deletePending →
            (s.cm.record i).use = 1 →
            u.cm.record i = .freed ∧ u.cm.freeList = s.cm.freeList ++ (s.cm.record i).pages
            ∧ u.cm.counters.deferredDeletes = count s.cm.counters.deferredDeletes)
        ∧ (ch.state = .armed → u.su = s.su ∧ (u.channel c).counters.disarms = count ch.counters.disarms)
        ∧ (ch.state ≠ .armed → k.FlagRaised u .spliceReturn ∧ (u.channel c).counters.returns = count ch.counters.returns))
    ∧ (∀ n, 3 < n → exec (.channelDisable h n) s = .next (k.reply h.tag 0x31#8 .range []))

/-- CUE_MATCH_WRITE and CUE_CANCEL (R126, R128): the entry overwritten and answered; of a cancelled event the list loses its cue,
counted as cancelled, an armed cue is disarmed and a splice on air ends, the arming test following where the channel is then in
NETWORK (R113), and where nothing bears the id NOT_FOUND; ALL empties the list alone. A channel above 3 is refused with RANGE, and
so, as the model chose where R128 names no such refusal, is a CUE_CANCEL choice byte above 1 (log entry 16). A match entry is
answered with its clip id as an optional value (log entry 18). -/
def Obligations.CueMatchAndCancel : Prop :=
  ∀ (s k : State) (h : Header), s.Hears h.source .splice → k = s.heard h.source →
    (∀ (p : CueMatchParams) (i : Fin 8) (e : CueMatch), p.index = i.val → p.enabled ≤ 1 → p.avail ≤ 255 → p.mask ≤ 15 →
      1 ≤ p.clip → p.clip ≤ 65535 →
      e = { enabled := decide (p.enabled = 0), avail := p.avail, mask := BitVec.ofNat 4 p.mask, clip := some p.clip } →
      exec (.cueMatchWrite h p) s = .next (State.reply
        { k with sc := { s.sc with cueMatches := setAt s.sc.cueMatches i e } } h.tag 0x33#8 .done
        (toBytes 1 p.enabled ++ toBytes 1 p.avail ++ toBytes 1 p.mask ++ [0x01#8] ++ toBytes 2 p.clip)))
    ∧ (∀ p : CueMatchParams, 7 < p.index ∨ 1 < p.enabled ∨ 255 < p.avail ∨ 15 < p.mask ∨ p.clip = 0 ∨ 65535 < p.clip →
        exec (.cueMatchWrite h p) s = .next (k.reply h.tag 0x33#8 .range []))
    ∧ (∀ (p : CueCancelParams) (c : Fin 4) (ch : Channel), p.channel = c.val → ch = s.channel c →
      (p.choice ≤ 1 → ch.state = .disabled → exec (.cueCancel h p) s = .next (k.reply h.tag 0x35#8 .state []))
      ∧ (p.choice = 1 → ch.state ≠ .disabled → exec (.cueCancel h p) s = .next (State.reply
        { k with
          sc := { s.sc with
                  channels := setAt s.sc.channels c
                    { ch with
                      list := []
                      counters := { ch.counters with cancelled := countBy ch.counters.cancelled ch.list.length } } } }
        h.tag 0x35#8 .done (toBytes 1 ch.list.length)))
      ∧ (p.choice = 0 → ch.state ≠ .disabled → (∀ a, ch.active = some a → a.event ≠ p.event) →
          (∀ q ∈ ch.list, q.event ≠ p.event) → exec (.cueCancel h p) s = .next (k.reply h.tag 0x35#8 .notFound []))
      ∧ (p.choice = 0 → ch.state ≠ .disabled → (∀ a, ch.active = some a → a.event ≠ p.event) →
          (∃ q ∈ ch.list, q.event = p.event) → ∀ left, left = removeFirst (fun q => q.event == p.event) ch.list →
          (ch.state ≠ .network ∨ left.head?.map (·.event) = ch.list.head?.map (·.event)
              ∨ (∀ x, left.head? = some x → s.cm.findReady x.clip = none) →
            exec (.cueCancel h p) s = .next (State.reply
              { k with
                sc := { s.sc with
                        channels := setAt s.sc.channels c
                          { ch with
                            list := left, counters := { ch.counters with cancelled := count ch.counters.cancelled } } } }
              h.tag 0x35#8 .done [0x02#8]))
          ∧ (∀ x rest i, ch.state = .network → left.head?.map (·.event) ≠ ch.list.head?.map (·.event) → left = x :: rest →
            s.cm.findReady x.clip = some i → ∃ u : State,
            exec (.cueCancel h p) s = .next (u.reply h.tag 0x35#8 .done [0x02#8]) ∧ s.cm.Held u.cm i
            ∧ u = { k with
                    sc := { s.sc with
                            channels := setAt s.sc.channels c
                              { ch with
                                list := rest, counters := { ch.counters with cancelled := count ch.counters.cancelled }
                                state := .armed, active := some x.armed } }
                    cm := u.cm }))
      ∧ (1 < p.choice → exec (.cueCancel h p) s = .next (k.reply h.tag 0x35#8 .range []))
      ∧ (∀ a, p.choice = 0 → ch.active = some a → a.event = p.event →
          (ch.state = .armed → ∃ u : State, exec (.cueCancel h p) s = .next (u.reply h.tag 0x35#8 .done [0x01#8])
            ∧ u = { k with sc := u.sc, cm := u.cm } ∧ (∀ d, d ≠ c → u.channel d = s.channel d)
            ∧ ch.Rearmed (u.channel c) s.cm
            ∧ (u.channel c).counters =
                { ch.counters with cancelled := count ch.counters.cancelled, disarms := count ch.counters.disarms })
          ∧ (ch.state = .out ∨ ch.state = .returning → ∃ u : State,
            exec (.cueCancel h p) s = .next (u.reply h.tag 0x35#8 .done [0x00#8])
            ∧ u = { k with sc := u.sc, cm := u.cm, su := u.su, mu := u.mu } ∧ k.FlagRaised u .spliceReturn
            ∧ (∀ d, d ≠ c → u.channel d = s.channel d)
            ∧ ch.Rearmed (u.channel c) s.cm ∧ (∀ j, getAt (u.channel c).subst j = .returned)
            ∧ (u.channel c).counters.returns = count ch.counters.returns
            ∧ (u.channel c).counters.cancelled = count ch.counters.cancelled)))
    ∧ (∀ p : CueCancelParams, 3 < p.channel → exec (.cueCancel h p) s = .next (k.reply h.tag 0x35#8 .range []))

/-- CUE_POST takes an OUT cue as one read from the channel's cue packet (R107, R108, R109, R127). A cue naming that of the active
splice is a duplicate; one that no enabled match entry fits is unmatched; one whose window has passed is MISSED with CUE_MISSED;
one of an event id in the list replaces that cue; into a list of 8 it overflows; else it joins the list. It joins behind the
immediate cues and, timed, before the first timed cue whose forward distance from the last released primary PTS is greater (R109,
in a list not ascending for that PTS by log entry 33). A channel in NETWORK then arms the head of its list where its clip is
READY, the use count rising by one (R113). The clip id matched is reported whatever becomes of the cue. Values out of range are
refused with RANGE, and on a DISABLED channel with STATE. The dispositions are numbered within the OUT cue's list, and an absent
clip is its presence byte alone (log entry 18). -/
def Obligations.CuePost : Prop :=
  (∀ (s k : State) (h : Header) (p : CuePostParams), s.Hears h.source .splice → k = s.heard h.source →
    (3 < p.channel ∨ 2 < p.kind ∨ (∃ t, p.time = some t ∧ 2 ^ 33 ≤ t) ∨ (∃ d, p.duration = some d ∧ (d = 0 ∨ 2 ^ 32 ≤ d))
        ∨ 255 < p.avail →
      exec (.cuePost h p) s = .next (k.reply h.tag 0x34#8 .range []))
    ∧ (∀ c : Fin 4, p.channel = c.val → (s.channel c).state = .disabled → p.kind ≤ 2 → (∀ t, p.time = some t → t < 2 ^ 33) →
        (∀ d, p.duration = some d → 1 ≤ d ∧ d < 2 ^ 32) → p.avail ≤ 255 →
        exec (.cuePost h p) s = .next (k.reply h.tag 0x34#8 .state [])))
  ∧ (∀ (s k : State) (h : Header) (c : Fin 4) (ch : Channel) (n : ChannelCounters) (p : CuePostParams) (time : Option Pts)
      (matched : Option CueMatch) (new : ListedCue) (listed : Bool) (before : ListedCue → Bool) (base joined : List ListedCue)
      (post : State → Channel → State) (code : Byte),
    s.Hears h.source .splice → k = s.heard h.source → ch = s.channel c → p.channel = c.val → ch.state ≠ .disabled → p.kind = 0 →
    (∀ t, p.time = some t → t < 2 ^ 33) → (∀ d, p.duration = some d → 1 ≤ d ∧ d < 2 ^ 32) → p.avail ≤ 255 →
    n = { ch.counters with cuesTaken := count ch.counters.cuesTaken } → time = p.time.map (BitVec.ofNat 33) →
    matched = s.sc.cueMatches.toList.find? (fun e => e.enabled && e.avail == p.avail && e.mask.getLsbD c.val) →
    new = { event := p.event, time, duration := p.duration, avail := p.avail, clip := (matched.bind (·.clip)).getD 0
            windowBase := if p.time.isNone then ch.lastPts else none, returnOverride := none } →
    listed = ch.list.any (fun q => q.event == p.event) → base = removeFirst (fun q => q.event == p.event) ch.list →
    before = (fun q => match time, ch.lastPts with
      | none, _ => q.time.isSome
      | some _, none => false
      | some t, some x => q.time.any fun b => decide ((t - x).toInt < (b - x).toInt)) →
    joined = base.takeWhile (fun q => !before q) ++ new :: base.dropWhile (fun q => !before q) →
    post = (fun t x => { t with sc := { t.sc with channels := setAt t.sc.channels c x } }) →
    code = (if listed then 0x01#8 else 0x00#8) →
    (∀ a, ch.state.holdsClip = true → ch.active = some a → a.event = p.event →
      exec (.cuePost h p) s = .next (State.reply
        (post k { ch with counters := { n with duplicates := count n.duplicates } })
        h.tag 0x34#8 .done ([0x02#8] ++ presence (toBytes 2) (matched.bind (·.clip)) ++ toBytes 1 ch.state.number)))
    ∧ ((ch.state.holdsClip = true → ∀ a, ch.active = some a → a.event ≠ p.event) →
      (matched.bind (·.clip) = none → exec (.cuePost h p) s = .next (State.reply
        (post k { ch with counters := { n with unmatched := count n.unmatched } })
        h.tag 0x34#8 .done ([0x03#8, 0x00#8] ++ toBytes 1 ch.state.number)))
      ∧ (∀ clip, matched.bind (·.clip) = some clip →
        (∀ t x, time = some t → ch.lastPts = some x → ptsAfter x (t + 180000#33) = true → ∃ u : State,
          exec (.cuePost h p) s = .next
            (u.reply h.tag 0x34#8 .done ([0x04#8, 0x01#8] ++ toBytes 2 clip ++ toBytes 1 ch.state.number))
          ∧ State.FlagRaised (post k { ch with counters := { n with missed := count n.missed } }) u .cueMissed
          ∧ u = { k with sc := u.sc, su := u.su, mu := u.mu }
          ∧ u.sc = (post k { ch with counters := { n with missed := count n.missed } }).sc)
        ∧ ((∀ t x, time = some t → ch.lastPts = some x → ptsAfter x (t + 180000#33) = false) →
          (listed = false → 8 ≤ ch.list.length → exec (.cuePost h p) s = .next (State.reply
            (post k { ch with counters := { n with overflow := count n.overflow } })
            h.tag 0x34#8 .done ([0x05#8, 0x01#8] ++ toBytes 2 clip ++ toBytes 1 ch.state.number)))
          ∧ (listed = true ∨ ch.list.length < 8 →
            (ch.state ≠ .network ∨ (∀ q, joined.head? = some q → s.cm.findReady q.clip = none) →
              exec (.cuePost h p) s = .next (State.reply
                (post k { ch with list := joined, counters := { n with replaced := countIf listed n.replaced } })
                h.tag 0x34#8 .done ([code, 0x01#8] ++ toBytes 2 clip ++ toBytes 1 ch.state.number)))
            ∧ (∀ q rest i, joined = q :: rest → ch.state = .network → s.cm.findReady q.clip = some i → ∃ u : State,
              exec (.cuePost h p) s = .next
                (u.reply h.tag 0x34#8 .done ([code, 0x01#8] ++ toBytes 2 clip ++ [0x02#8]))
              ∧ u = { post k { ch with
                               list := rest, counters := { n with replaced := countIf listed n.replaced }, state := .armed
                               active := some q.armed }
                      with cm := u.cm }
              ∧ s.cm.Held u.cm i
              ∧ (∀ j : Fin 4, j.val < ch.pids.length → ∀ first,
                  first = (if j.val < (s.cm.record i).components
                    then (List.range' 0 (s.cm.record i).count).find? fun m => s.cm.tagOf (s.cm.record i) m == j.val
                    else none) →
                  getAt u.cm.prefetch (componentIndex c j) = { queue := [], pointer := first, exhausted := first.isNone })))))))

/-- CUE_POST takes IN and CANCEL cues as those read from the channel's cue packets (R111, R112, R127), each applied to the first
that bears its event id. An IN gives the splice on air its return time, the forced-return time computed afresh and, where that has
been reached, the forced return at once (R120, R121); it gives the armed cue, or a listed one, its return override where it has a
time and that is after the cue's own or the cue is immediate, and else disarms or removes the cue, counted as cancelled. A CANCEL
ends the splice by immediate return (R122), disarms the armed cue (R114) or removes the listed one, counted as cancelled. A
removal that changes the head of the list of a channel in NETWORK is followed by the arming test (R113). Either that finds nothing
is ignored and counted. The dispositions are numbered within the list of the cue's kind (log entry 18). -/
def Obligations.InAndCancelCues : Prop :=
  ∀ (s k : State) (h : Header) (c : Fin 4) (ch : Channel) (n : ChannelCounters) (p : CuePostParams) (time : Option Pts)
    (post : State → Channel → State) (passes : Option Pts → Prop) (bytes : Byte → List Byte),
    s.Hears h.source .splice → k = s.heard h.source → ch = s.channel c → p.channel = c.val → ch.state ≠ .disabled →
    (∀ t, p.time = some t → t < 2 ^ 33) → (∀ d, p.duration = some d → 1 ≤ d ∧ d < 2 ^ 32) → p.avail ≤ 255 →
    n = { ch.counters with cuesTaken := count ch.counters.cuesTaken } → time = p.time.map (BitVec.ofNat 33) →
    post = (fun t x => { t with sc := { t.sc with channels := setAt t.sc.channels c x } }) →
    passes = (fun b => ∃ t, time = some t ∧ ∀ x, b = some x → ptsAfter t x = true) →
    bytes = (fun d => d :: toBytes 1 ch.state.number) →
    -- the splice on air
    (∀ a o t changed, ch.state = .out ∨ ch.state = .returning → ch.active = some a → a.event = p.event → a.out = some o →
      (p.kind = 1 → t = (time.or ch.lastPts).getD o.pts →
        changed = { o with
                    returnTime := t
                    forcedAt := addTicks o.siteTime
                      (((if (t - o.pts).toNat < 2 ^ 32 then (t - o.pts).toNat else 0) * 300 + 54000000 : Nat) : Int) } →
        (o.forced = true ∨ isBefore s.tu.time changed.forcedAt = true → exec (.cuePost h p) s = .next (State.reply
          (post k { ch with active := some { a with out := some changed }, counters := n }) h.tag 0x34#8 .done (bytes 0x00#8)))
        ∧ (o.forced = false → atOrAfter s.tu.time changed.forcedAt = true → ∃ u : State,
          exec (.cuePost h p) s = .next (u.reply h.tag 0x34#8 .done (bytes 0x00#8))
          ∧ u = { k with sc := u.sc, su := u.su, mu := u.mu } ∧ k.FlagRaised u .spliceForced
          ∧ u.sc = (post k { ch with
                             active := some { a with out := some { changed with forced := true } }
                             counters := { n with forcedReturns := count n.forcedReturns } }).sc))
      ∧ (p.kind = 2 → ∃ u : State, exec (.cuePost h p) s = .next
            (u.reply h.tag 0x34#8 .done (0x00#8 :: toBytes 1 (u.channel c).state.number))
          ∧ u = { k with sc := u.sc, cm := u.cm, su := u.su, mu := u.mu } ∧ k.FlagRaised u .spliceReturn
          ∧ (∀ d, d ≠ c → u.channel d = s.channel d)
          ∧ ch.Rearmed (u.channel c) s.cm ∧ (∀ j, getAt (u.channel c).subst j = .returned)
          ∧ (u.channel c).counters.returns = count ch.counters.returns
          ∧ (u.channel c).counters.cancelled = count ch.counters.cancelled))
    -- the armed cue
    ∧ (∀ a, ch.state = .armed → ch.active = some a → a.event = p.event →
      (∀ t, p.kind = 1 → passes a.time → time = some t → exec (.cuePost h p) s = .next (State.reply
        (post k { ch with active := some { a with returnOverride := some t }, counters := n })
        h.tag 0x34#8 .done (bytes 0x01#8)))
      ∧ ((p.kind = 1 ∧ ¬ passes a.time) ∨ p.kind = 2 → ∃ u : State, exec (.cuePost h p) s = .next
          (u.reply h.tag 0x34#8 .done
            ((if p.kind = 1 then 0x03#8 else 0x01#8) :: toBytes 1 (u.channel c).state.number))
        ∧ u = { k with sc := u.sc, cm := u.cm } ∧ (∀ d, d ≠ c → u.channel d = s.channel d)
        ∧ ch.Rearmed (u.channel c) s.cm
        ∧ (u.channel c).counters = { n with cancelled := count n.cancelled, disarms := count n.disarms }))
    -- a listed cue, and none
    ∧ ((∀ a, ch.state.holdsClip = true → ch.active = some a → a.event ≠ p.event) →
      (∀ q, ch.list.find? (fun q => q.event == p.event) = some q →
        (∀ t, p.kind = 1 → passes q.time → time = some t → exec (.cuePost h p) s = .next (State.reply
          (post k { ch with
                    list := modifyFirst (fun q => q.event == p.event) (fun q => { q with returnOverride := some t }) ch.list
                    counters := n })
          h.tag 0x34#8 .done (bytes 0x02#8)))
        ∧ ((p.kind = 1 ∧ ¬ passes q.time) ∨ p.kind = 2 → ∀ left code,
          left = removeFirst (fun q => q.event == p.event) ch.list → code = (if p.kind = 1 then 0x03#8 else 0x02#8) →
          (ch.state ≠ .network ∨ left.head?.map (·.event) = ch.list.head?.map (·.event)
              ∨ (∀ x, left.head? = some x → s.cm.findReady x.clip = none) →
            exec (.cuePost h p) s = .next (State.reply
              (post k { ch with list := left, counters := { n with cancelled := count n.cancelled } })
              h.tag 0x34#8 .done (bytes code)))
          ∧ (∀ x rest i, ch.state = .network → left.head?.map (·.event) ≠ ch.list.head?.map (·.event) → left = x :: rest →
            s.cm.findReady x.clip = some i → ∃ u : State,
            exec (.cuePost h p) s = .next (u.reply h.tag 0x34#8 .done [code, 0x02#8]) ∧ s.cm.Held u.cm i
            ∧ u = { post k { ch with
                             list := rest, counters := { n with cancelled := count n.cancelled }, state := .armed
                             active := some x.armed }
                    with cm := u.cm })))
      ∧ ((∀ q ∈ ch.list, q.event ≠ p.event) →
        (p.kind = 1 → exec (.cuePost h p) s = .next (State.reply
          (post k { ch with counters := { n with insIgnored := count n.insIgnored } }) h.tag 0x34#8 .done (bytes 0x04#8)))
        ∧ (p.kind = 2 → exec (.cuePost h p) s = .next (State.reply
          (post k { ch with counters := { n with cancelsIgnored := count n.cancelsIgnored } })
          h.tag 0x34#8 .done (bytes 0x03#8)))))

/-- CLIP_LOAD_BEGIN, CLIP_LOAD_END, CLIP_LOAD_ABANDON and CLIP_DELETE, taken from port L (R134, R137, R138, R140, R141). A begin
is checked in order and opens the context on the FREE record of lowest index. An end that fails verification fails the load with
its reason (R139); one that passes makes it DRAIN and is answered, and with an empty buffer the load is complete at once after the
reply has been queued (R138; with no event between, the model's reading, log entry 37): the record READY, CLIP_LOADED raised, its
notice behind the reply. An abandon fails an open or draining load. A delete frees a READY record no channel holds, or makes it
DELETE_PENDING. A failed end reports the packet count of the load and a buffer of 0 (log entry 24); the reason byte that stands
with VERIFIED is 0, and the state a delete reports is 0 for FREE and 1 for DELETE_PENDING (the model's choices, log entry 18). -/
def Obligations.ClipCommands : Prop :=
  ∀ (s k : State) (h : Header) (l : LoadContext) (r : ClipRecord), s.Hears h.source .portLOnly → k = s.heard h.source →
    l = s.cm.load → r = s.cm.record l.record →
    (∀ p : LoadBeginParams, ∀ ranged : Prop,
      ranged = (1 ≤ p.clip ∧ p.clip ≤ 65535 ∧ 1 ≤ p.count ∧ p.count ≤ 262144 ∧ 1 ≤ p.duration ∧ p.duration ≤ 4294967295
        ∧ 1 ≤ p.pids.length ∧ p.pids.length ≤ 4 ∧ (∀ x ∈ p.pids, x ≤ 8191) ∧ p.pids.Nodup) →
      (l.state ≠ .closed → exec (.clipLoadBegin h p) s = .next (k.reply h.tag 0x40#8 .busy []))
      ∧ (l.state = .closed →
        (¬ ranged → exec (.clipLoadBegin h p) s = .next (k.reply h.tag 0x40#8 .range []))
        ∧ (ranged → (∀ i, (s.cm.record i).state ≠ .free) →
            exec (.clipLoadBegin h p) s = .next (k.reply h.tag 0x40#8 .noSpace []))
        ∧ (∀ i, ranged → (s.cm.record i).state = .free → (∀ j, j < i → (s.cm.record j).state ≠ .free) →
          ((∃ j, (s.cm.record j).state ≠ .free ∧ (s.cm.record j).id = p.clip) →
            exec (.clipLoadBegin h p) s = .next (k.reply h.tag 0x40#8 .conflict []))
          ∧ ((∀ j, (s.cm.record j).state = .free ∨ (s.cm.record j).id ≠ p.clip) →
            (s.cm.freeList.length * 256 < p.count →
              exec (.clipLoadBegin h p) s = .next (k.reply h.tag 0x40#8 .noSpace []))
            ∧ (p.count ≤ s.cm.freeList.length * 256 → exec (.clipLoadBegin h p) s = .next (State.reply
              { k with
                cm := { s.cm with
                        directory := setAt s.cm.directory i
                          { state := .loading, id := p.clip, use := 0, pages := [], count := 0, declared := p.count
                            components := p.pids.length, firstPts := Vector.replicate 4 none, duration := p.duration
                            crc := p.crc }
                        load := { state := .opened, record := i, map := p.pids, crc := 0xFFFFFFFF#32, excess := false
                                  buffer := [] }
                        counters := { s.cm.counters with loadsBegun := count s.cm.counters.loadsBegun } } }
              h.tag 0x40#8 .done (toBytes 1 i.val ++ toBytes 2 s.cm.freeList.length)))))))
    ∧ (∀ n, l.state = .closed → exec (.clipLoadEnd h n) s = .next (k.reply h.tag 0x41#8 .state []))
    ∧ (∀ n, l.state ≠ .closed → r.id ≠ n → exec (.clipLoadEnd h n) s = .next (k.reply h.tag 0x41#8 .notFound []))
    ∧ (∀ n, l.state = .draining → r.id = n → exec (.clipLoadEnd h n) s = .next (k.reply h.tag 0x41#8 .state []))
    ∧ (∀ n good, l.state = .opened → r.id = n → good = decide (r.count = r.declared ∧ l.excess = false) →
      (∀ reason code, (good = false ∧ reason = .count ∧ code = 0) ∨ (good = true ∧ l.crc ≠ r.crc ∧ reason = .crc ∧ code = 1)
          ∨ (good = true ∧ l.crc = r.crc ∧ getAt r.firstPts 0 = none ∧ reason = .noTimestamp ∧ code = 2) → ∃ u : State,
        exec (.clipLoadEnd h n) s = .next
          (u.reply h.tag 0x41#8 .done (toBytes 1 1 ++ toBytes 1 code ++ toBytes 4 r.count ++ toBytes 1 0))
        ∧ u = { k with cm := u.cm, su := u.su, mu := u.mu } ∧ k.LoadFailed u reason)
      ∧ (good = true → l.crc = r.crc → getAt r.firstPts 0 ≠ none →
        (l.buffer ≠ [] → exec (.clipLoadEnd h n) s = .next (State.reply
          { k with cm := { s.cm with load := { l with state := .draining } } } h.tag 0x41#8 .done
          (toBytes 1 0 ++ toBytes 1 0 ++ toBytes 4 r.count ++ toBytes 1 l.buffer.length)))
        ∧ (∀ v, l.buffer = [] →
          v = State.reply { k with cm := { s.cm with load := { l with state := .draining } } } h.tag 0x41#8 .done
            (toBytes 1 0 ++ toBytes 1 0 ++ toBytes 4 r.count ++ toBytes 1 0) →
          ∃ u : State, exec (.clipLoadEnd h n) s = .next u
          ∧ u = { v with sc := u.sc, cm := u.cm, su := u.su, mu := u.mu } ∧ v.FlagRaised u .clipLoaded
          ∧ (u.cm.record l.record).state = .ready ∧ (u.cm.record l.record).pages = r.pages
          ∧ u.cm.load = .closed ∧ u.cm.lastOutcome = some (.loaded, n) ∧ u.cm.freeList = s.cm.freeList
          ∧ u.cm.counters = { s.cm.counters with clipsLoaded := count s.cm.counters.clipsLoaded })))
    ∧ (l.state = .closed → exec (.clipLoadAbandon h) s = .next (k.reply h.tag 0x42#8 .state []))
    ∧ (l.state ≠ .closed → ∃ u : State, exec (.clipLoadAbandon h) s = .next
        (u.reply h.tag 0x42#8 .done (toBytes 2 r.id ++ toBytes 4 r.count))
      ∧ u = { k with cm := u.cm, su := u.su, mu := u.mu } ∧ k.LoadFailed u .abandoned)
    ∧ (∀ n, n = 0 ∨ 65535 < n → exec (.clipDelete h n) s = .next (k.reply h.tag 0x43#8 .range []))
    ∧ (∀ n, 1 ≤ n → n ≤ 65535 → s.cm.find n = none →
        exec (.clipDelete h n) s = .next (k.reply h.tag 0x43#8 .notFound []))
    ∧ (∀ n i, 1 ≤ n → n ≤ 65535 → s.cm.find n = some i →
      ((s.cm.record i).state ≠ .ready → exec (.clipDelete h n) s = .next (k.reply h.tag 0x43#8 .state []))
      ∧ ((s.cm.record i).state = .ready → (s.cm.record i).use = 0 → exec (.clipDelete h n) s = .next (State.reply
        { k with
          cm := { s.cm with
                  freeList := s.cm.freeList ++ (s.cm.record i).pages, directory := setAt s.cm.directory i .freed
                  counters := { s.cm.counters with deletes := count s.cm.counters.deletes } } }
        h.tag 0x43#8 .done [0x00#8, 0x00#8]))
      ∧ ((s.cm.record i).state = .ready → (s.cm.record i).use ≠ 0 → exec (.clipDelete h n) s = .next (State.reply
        { k with
          cm := { s.cm with
                  directory := setAt s.cm.directory i { s.cm.record i with state := .deletePending }
                  counters := { s.cm.counters with deletes := count s.cm.counters.deletes } } }
        h.tag 0x43#8 .done ([0x01#8] ++ toBytes 1 (s.cm.record i).use))))

/-- The splice-out point of a timed cue (R105, R115, R116, R153); the packets at which such a cue is not spliced out stand in
CuesAtRelease. An ARMED channel's released primary packet with payload start, random access and a readable PTS p at or after the
armed cue's splice time and not after it by more than 180,000 takes the channel to OUT, the return time being the override, else p
+ duration, else p + the clip's duration, and the offset p minus the clip's component-0 first PTS. The window test of the
channel's cue list comes first (R105, R110): a cue whose base lies more than 180,000 before p is MISSED, counted and flagged, an
immediate cue without a base receives p. The packet itself gives up its place to the head of the primary's queue, its clock
stuffed and its timestamps moved by the offset, or to a null packet where the queue is empty (R149, R151, R154, R156). By the
bytes of 11.6: the PTS at offset 9 of the payload, and the DTS at 14 where one is carried, are moved modulo 2^33, prefix and
marker bits and every other byte kept (R104, R154); of a clock reference the flag is cleared, what followed it in the adaptation
field moves six bytes forward, and six bytes of 0xFF end the field (R152), or the packet where the field runs past it (the model's
choice, log entry 35). -/
def Obligations.SpliceOutPoint : Prop :=
  (∀ (s : State) (c : Fin 4) (packet : Packet) (a : ActiveSplice) (p t ret : Pts) (r : ClipRecord) (q : Prefetch) (o : SpliceOut)
    (late : ListedCue → Bool), late = (fun x => (x.time.or x.windowBase).any fun b => ptsAfter p (b + 180000#33)) →
    s.componentChannel (pidOf packet) = some (c, 0) → (s.channel c).state = .armed → (s.channel c).active = some a →
    payloadStart packet = true → randomAccess packet = true → readablePts packet = some p → a.time = some t →
    ptsAtOrAfter p t = true → ptsAfter p (t + 180000#33) = false → r = s.cm.recordOf a.clip →
    ret = (match a.returnOverride with
           | some x => x
           | none => p + BitVec.ofNat 33 (a.duration.getD r.duration)) →
    o = { pts := p, offset := p - (getAt r.firstPts 0).getD 0#33, returnTime := ret, siteTime := s.tu.time
          forcedAt := addTicks s.tu.time
            (((if (ret - p).toNat < 2 ^ 32 then (ret - p).toNat else 0) * 300 + 54000000 : Nat) : Int)
          forced := false } →
    q = getAt s.cm.prefetch (componentIndex c 0) →
    ∃ u : State, (s.stage3 packet).1 = u ∧ u = { s with sc := u.sc, cm := u.cm, su := u.su, mu := u.mu }
      ∧ (u.channel c).state = .out ∧ (u.channel c).lastPts = some p
      ∧ (u.channel c).active = some { a with out := some o } ∧ u.flagSet .spliceOut = true
      ∧ getAt (u.channel c).subst 0 = .substituting
      ∧ (∀ j : Fin 4, j ≠ 0 → getAt (u.channel c).subst j =
          if j.val < (s.channel c).pids.length then .waiting else .returned)
      ∧ (u.channel c).counters.spliceOuts = count (s.channel c).counters.spliceOuts
      ∧ (∀ d, d ≠ c → u.channel d = s.channel d)
      ∧ (u.channel c).list = ((s.channel c).list.filter fun x => !late x).map (fun x =>
          if x.time = none ∧ x.windowBase = none then { x with windowBase := some p } else x)
      ∧ (u.channel c).counters.missed = countTimes (s.channel c).counters.missed ((s.channel c).list.countP late)
      ∧ (0 < (s.channel c).list.countP late → u.flagSet .cueMissed = true)
      ∧ (∀ x rest, q.queue = x :: rest →
          (s.stage3 packet).2 = .packet (rebase (if carriesClock x then stuffClock x else x) o.offset).1
          ∧ u.cm = { s.cm with prefetch := setAt s.cm.prefetch (componentIndex c 0) { q with queue := rest } }
          ∧ (u.channel c).counters.clipPlayed = count (s.channel c).counters.clipPlayed)
      ∧ (q.queue = [] → (s.stage3 packet).2 = .null ∧ u.cm = s.cm
          ∧ (q.exhausted = false → u.flagSet .clipUnderrun = true ∧ u.su.seenUnderrun = true
            ∧ (u.channel c).counters.underrunNulls = count (s.channel c).counters.underrunNulls)
          ∧ (q.exhausted = true →
            (u.channel c).counters.exhaustedNulls = count (s.channel c).counters.exhaustedNulls)))
  ∧ (∀ (x : Packet) (k : Pts), Rebased x (rebase x k).1 k (rebase x k).2
    ∧ (HasPts x → readablePts x = some (BitVec.ofNat 33 (stampAt x (payloadAt x + 9)))) ∧ (¬ HasPts x → readablePts x = none)
    ∧ (payloadStart x = true ↔ byteNat x 1 / 64 % 2 = 1)
    ∧ (randomAccess x = true ↔ byteNat x 3 / 32 % 2 = 1 ∧ 1 ≤ byteNat x 4 ∧ byteNat x 5 / 64 % 2 = 1)
    ∧ (carriesClock x = true ↔ HasClock x) ∧ (x.length = 188 → HasClock x → ClockStuffed x (stuffClock x)))

/-- Cues at the release of a packet. A packet of a channel's cue PID is read (R106): one that fails a test of R106 is counted and
gives no cue; a valid one gives the cue its payload carries (11.6), which the channel takes under R108, R111 or R112. A packet of
no enabled channel's component passes stage 3 untouched, and one of a component of a channel in NETWORK or ARMED passes with
nothing changed where it is not on the primary, or has no readable PTS (R105); in ARMED such a packet of the primary MISSES the
cue where the last released primary PTS lies after its window (R115). At a primary packet with a readable PTS p of a channel in
NETWORK, p becomes the last released primary PTS and the list is tested (R105, R110): a cue whose base, its splice time or window
base, lies more than 180,000 before p is MISSED, counted and flagged; an immediate cue without a base receives p; where that
changes the head of the list the arming test follows (R113). An armed cue is tested at a primary packet with a readable PTS after
that test of the list (R115), its base its splice time, or the window base of an immediate cue, which receives p where it has
none. It splices out at payload start and random access with p not after its window and, for a timed cue, at or after the splice
time; with p after its window, 180,000 from the base, it is MISSED, counted and flagged, and the channel disarmed, the arming test
following (R114); else, before the splice time or at no entry point, the packet passes and the channel stays ARMED. -/
def Obligations.CuesAtRelease : Prop :=
  (∀ (s : State) (packet pay : Packet) (c : Fin 4) (valid : Prop), pay = payloadOf packet →
    valid = (transportError packet = false ∧ payloadPresent packet = true ∧ scrambling packet = 0 ∧ 20 ≤ pay.length
      ∧ fieldAt pay 16 4 = (crc32 (pay.take 16)).toNat ∧ fieldAt pay 4 1 ≤ 2
      ∧ ¬ (bitAt pay 5 1 = true ∧ fieldAt pay 11 4 = 0)) →
    ((s.channel c).state = .disabled ∨ (s.channel c).cuePid ≠ some (pidOf packet) → s.readCue packet c = s)
    ∧ ((s.channel c).state ≠ .disabled → (s.channel c).cuePid = some (pidOf packet) →
      (¬ valid → s.readCue packet c =
        { s with
          sc := { s.sc with
                  channels := setAt s.sc.channels c
                    { s.channel c with
                      counters := { (s.channel c).counters with
                                    badCuePackets := count (s.channel c).counters.badCuePackets } } } })
      ∧ (∀ kind, valid → kind = (if fieldAt pay 4 1 = 0 then CueKind.out else if fieldAt pay 4 1 = 1 then .in_ else .cancel) →
        s.readCue packet c = (s.takeCue c
          { event := fieldAt pay 0 4, kind, avail := fieldAt pay 15 1
            time := if bitAt pay 5 0 then some (BitVec.ofNat 33 (fieldAt pay 6 5)) else none
            duration := if bitAt pay 5 1 then some (fieldAt pay 11 4) else none }).1)))
  ∧ (∀ (s : State) (start arrival : SiteTime) (packet : Packet), usablePid (pidOf packet) = true →
    s.stages start arrival packet =
      State.streamStages ((((s.readCue packet 0).readCue packet 1).readCue packet 2).readCue packet 3) start arrival packet)
  ∧ (∀ (s : State) (packet : Packet),
    (∀ c k, s.componentChannel (pidOf packet) = some (c, k) →
      (s.channel c).state ≠ .disabled ∧ (s.channel c).pids[k.val]? = some (pidOf packet))
    ∧ (s.componentChannel (pidOf packet) = none → s.stage3 packet = (s, .packet packet)
      ∧ ∀ c k : Fin 4, (s.channel c).state ≠ .disabled → (s.channel c).pids[k.val]? ≠ some (pidOf packet)))
  ∧ (∀ (s : State) (c : Fin 4) (packet : Packet) (p : Pts) (ch heard : Channel) (late : ListedCue → Bool) (list : List ListedCue)
      (same : Prop),
    s.componentChannel (pidOf packet) = some (c, 0) → readablePts packet = some p → ch = s.channel c → ch.state = .network →
    late = (fun q => (q.time.or q.windowBase).any fun b => ptsAfter p (b + 180000#33)) →
    list = (ch.list.filter fun q => !late q).map (fun q =>
      if q.time = none ∧ q.windowBase = none then { q with windowBase := some p } else q) →
    heard = { ch with
              lastPts := some p, list := list
              counters := { ch.counters with missed := countTimes ch.counters.missed (ch.list.countP late) } } →
    same = (list.head?.map (·.event) = ch.list.head?.map (·.event)) →
    ∃ u : State, s.stage3 packet = (u, .packet packet) ∧ u = { s with sc := u.sc, cm := u.cm, su := u.su, mu := u.mu }
      ∧ (ch.list.countP late = 0 → u.su = s.su ∧ u.mu = s.mu) ∧ (0 < ch.list.countP late → s.FlagRaised u .cueMissed)
      ∧ (same ∨ (∀ x, list.head? = some x → s.cm.findReady x.clip = none) →
          u.cm = s.cm ∧ u.sc = { s.sc with channels := setAt s.sc.channels c heard })
      ∧ (∀ x rest i, ¬ same → list = x :: rest → s.cm.findReady x.clip = some i → s.cm.Held u.cm i
          ∧ u.sc = { s.sc with
                     channels := setAt s.sc.channels c
                       { heard with list := rest, state := .armed, active := some x.armed } }))
  ∧ (∀ (s : State) (c k : Fin 4) (packet : Packet) (ch : Channel), s.componentChannel (pidOf packet) = some (c, k) →
    ch = s.channel c →
    (ch.state = .network ∨ ch.state = .armed → k ≠ 0 → s.stage3 packet = (s, .packet packet))
    ∧ (readablePts packet = none →
      (ch.state = .network → s.stage3 packet = (s, .packet packet))
      ∧ (∀ a missed, k = 0 → ch.state = .armed → ch.active = some a →
        missed = (∃ x b, ch.lastPts = some x ∧ a.time.or a.windowBase = some b ∧ ptsAfter x (b + 180000#33) = true) →
        (¬ missed → s.stage3 packet = (s, .packet packet))
        ∧ (missed → ∃ u : State, s.stage3 packet = (u, .packet packet) ∧ s.ArmedCueMissed u c ch a))))
  ∧ (∀ (s : State) (c : Fin 4) (packet : Packet) (p w : Pts) (a : ActiveSplice) (ch heard : Channel) (late : ListedCue → Bool)
      (n : Nat) (reached : Prop),
    s.componentChannel (pidOf packet) = some (c, 0) → readablePts packet = some p → ch = s.channel c → ch.state = .armed →
    ch.active = some a → w = (a.time.or a.windowBase).getD p → reached = (∀ t, a.time = some t → ptsAtOrAfter p t = true) →
    late = (fun q => (q.time.or q.windowBase).any fun b => ptsAfter p (b + 180000#33)) → n = ch.list.countP late →
    heard = { ch with
              lastPts := some p
              list := (ch.list.filter fun q => !late q).map (fun q =>
                if q.time = none ∧ q.windowBase = none then { q with windowBase := some p } else q)
              active := some (if a.time = none then { a with windowBase := some w } else a)
              counters := { ch.counters with missed := countTimes ch.counters.missed n } } →
    ∃ u : State, (s.stage3 packet).1 = u ∧ u = { s with sc := u.sc, cm := u.cm, su := u.su, mu := u.mu }
      ∧ (u.channel c).lastPts = some p ∧ (∀ d, d ≠ c → u.channel d = s.channel d)
      ∧ (ptsAfter p (w + 180000#33) = true → (s.stage3 packet).2 = .packet packet ∧ s.ArmedCueMissed u c heard a)
      ∧ (ptsAfter p (w + 180000#33) = false →
          (payloadStart packet = true → randomAccess packet = true → reached →
            (u.channel c).list = heard.list ∧ (u.channel c).counters.missed = heard.counters.missed
            ∧ (0 < n → u.flagSet .cueMissed = true) ∧ (u.channel c).state = .out
            ∧ u.flagSet .spliceOut = true ∧ getAt (u.channel c).subst 0 = .substituting
            ∧ ((u.channel c).active.bind (·.out)).map (·.pts) = some p)
          ∧ (payloadStart packet = false ∨ randomAccess packet = false ∨ ¬ reached →
            (s.stage3 packet).2 = .packet packet ∧ u.cm = s.cm
            ∧ u.sc = { s.sc with channels := setAt s.sc.channels c heard }
            ∧ (n = 0 → u.su = s.su ∧ u.mu = s.mu) ∧ (0 < n → s.FlagRaised u .cueMissed))))

/-- A splice on air, at the release of a packet of one of its components. A readable PTS p of the primary becomes the last
released primary PTS, and the window test of the cue list comes first (R105, R110): a cue whose base lies more than 180,000 before
p is MISSED, counted and flagged, an immediate cue without a base receives p. A WAITING component starts at a packet with payload
start, which it already replaces (R117). A component meets its return point (R117, R118) at a packet with payload start and a
readable PTS at or after the return time, the primary with random access beside, or once the forced mark is set (R121) at any
packet: it becomes RETURNED, the packet passes, its unplayed clip packets are counted as abandoned and its queue is emptied
(R158), and the channel is RETURNING. When that returns the last component the splice ends (R119): the record cleared, counted,
SPLICE_RETURN raised, the clip let go, the channel in NETWORK, and the arming test follows on the head of the list (R113).
Otherwise a SUBSTITUTING component's packet gives up its place to the head of the queue or to a null packet (R149, R151, R156,
R157), and any other packet passes. -/
def Obligations.SpliceOnAir : Prop :=
  ∀ (s : State) (c k : Fin 4) (packet : Packet) (a : ActiveSplice) (o : SpliceOut) (sub : Substitution) (returns : Prop)
    (late : Pts → ListedCue → Bool) (ch : Channel) (r : ClipRecord) (q : Prefetch) (left missed : Nat) (heard : Option Pts),
    s.componentChannel (pidOf packet) = some (c, k) → (s.channel c).state = .out ∨ (s.channel c).state = .returning →
    (s.channel c).active = some a → a.out = some o → sub = getAt (s.channel c).subst k →
    returns = (o.forced = true ∨ (payloadStart packet = true ∧ (k ≠ 0 ∨ randomAccess packet = true)
      ∧ ∃ p, readablePts packet = some p ∧ ptsAtOrAfter p o.returnTime = true)) →
    late = (fun p x => (x.time.or x.windowBase).any fun b => ptsAfter p (b + 180000#33)) →
    heard = (if k = 0 then readablePts packet else none) →
    missed = (match heard with | none => 0 | some p => (s.channel c).list.countP (late p)) →
    ch = (match heard with
      | none => s.channel c
      | some p =>
        { s.channel c with
          lastPts := some p
          list := ((s.channel c).list.filter fun x => !late p x).map (fun x =>
            if x.time = none ∧ x.windowBase = none then { x with windowBase := some p } else x)
          counters := { (s.channel c).counters with missed := countTimes (s.channel c).counters.missed missed } }) →
    r = s.cm.recordOf a.clip → q = getAt s.cm.prefetch (componentIndex c k) →
    left = q.queue.length + (match q.pointer with
      | none => 0
      | some i => (List.range' i (r.count - i)).countP fun j => s.cm.tagOf r j == k.val) →
    ∃ m : State, m = { s with sc := { s.sc with channels := setAt s.sc.channels c ch }, su := m.su, mu := m.mu }
      ∧ (missed = 0 → m.su = s.su ∧ m.mu = s.mu) ∧ (0 < missed → s.FlagRaised m .cueMissed)
      ∧ (sub = .returned ∨ (sub = .waiting ∧ ¬ returns ∧ payloadStart packet = false) → s.stage3 packet = (m, .packet packet))
      ∧ (sub ≠ .returned → returns → ∃ u : State, s.stage3 packet = (u, .packet packet)
          ∧ u = { m with sc := u.sc, cm := u.cm, su := u.su, mu := u.mu } ∧ (∀ d, d ≠ c → u.channel d = s.channel d)
          ∧ getAt (u.channel c).subst k = .returned ∧ (u.channel c).lastPts = ch.lastPts
          ∧ (u.channel c).counters.abandoned = countBy ch.counters.abandoned left
          ∧ (getAt u.cm.prefetch (componentIndex c k)).queue = []
          ∧ ((∃ j, j ≠ k ∧ getAt (s.channel c).subst j ≠ .returned) →
              (u.channel c).state = .returning ∧ (u.channel c).active = some a ∧ (u.channel c).list = ch.list
              ∧ u.su = m.su ∧ u.mu = m.mu ∧ getAt u.cm.prefetch (componentIndex c k) = { q with queue := [] }
              ∧ (∀ j, j ≠ k → getAt (u.channel c).subst j = getAt (s.channel c).subst j))
          ∧ ((∀ j, j ≠ k → getAt (s.channel c).subst j = .returned) →
              ch.Rearmed (u.channel c) s.cm ∧ m.FlagRaised u .spliceReturn
              ∧ (u.channel c).counters.returns = count ch.counters.returns
              ∧ (∀ j, getAt (u.channel c).subst j = .returned)
              ∧ ((u.channel c).state = .network →
                  getAt u.cm.prefetch (componentIndex c k) = { q with queue := [] }
                  ∧ ∀ i, s.cm.find a.clip = some i → (s.cm.record i).state = .ready →
                      u.cm.record i = { s.cm.record i with use := (s.cm.record i).use - 1 })))
      ∧ ((sub = .substituting ∧ ¬ returns) ∨ (sub = .waiting ∧ ¬ returns ∧ payloadStart packet = true) → ∀ on,
          on = { ch with subst := setAt ch.subst k .substituting } →
          (∀ x rest n moved, q.queue = x :: rest → moved = rebase (if carriesClock x then stuffClock x else x) o.offset →
            n = { ch.counters with
                  clipPlayed := count ch.counters.clipPlayed
                  clocksStuffed := countIf (carriesClock x) ch.counters.clocksStuffed
                  timestampsRebased := countBy ch.counters.timestampsRebased moved.2 } →
            s.stage3 packet =
              ({ m with
                 sc := { s.sc with channels := setAt s.sc.channels c { on with counters := n } }
                 cm := { s.cm with prefetch := setAt s.cm.prefetch (componentIndex c k) { q with queue := rest } } },
               .packet moved.1))
          ∧ (q.queue = [] → q.exhausted = true → s.stage3 packet =
              ({ m with
                 sc := { s.sc with
                         channels := setAt s.sc.channels c
                           { on with counters := { ch.counters with exhaustedNulls := count ch.counters.exhaustedNulls } } } },
               .null))
          ∧ (q.queue = [] → q.exhausted = false → ∃ u : State, s.stage3 packet = (u, .null)
              ∧ u = { m with
                      sc := { s.sc with
                              channels := setAt s.sc.channels c
                                { on with counters := { ch.counters with underrunNulls := count ch.counters.underrunNulls } } }
                      su := u.su, mu := u.mu }
              ∧ u.RaisedFrom { m.su with seenUnderrun := true } m.mu .clipUnderrun))

/-! ### Laws of the device that every step keeps, and the encoding of commands -/

/-- The balance of both feeds: taken equals released plus discarded plus dropped plus resident, modulo 2^48, rings and tables
keeping to their sizes (R9, R12, R18). Every step keeps it. -/
def Obligations.EveryStepKeepsTheBalance : Prop :=
  ∀ s t : State, s.StoreLawful → s.Balanced → step s = .next t → t.StoreLawful ∧ t.Balanced

/-- Position 0 of every group is its cadence packet (R12, R13). Every step keeps it. -/
def Obligations.EveryStepKeepsCadenceLeads : Prop :=
  ∀ s t : State, s.CadenceLeads → step s = .next t → t.CadenceLeads

/-- The monitor queue holds at most 64 packets (R191). ALARM is asserted exactly while a flag is set and unmasked and RESET is not
held (R171, R197). The tick of site time is below 27,000,000 (R69), the run of good pulses lies in 0..4 (R73), and the history
ring holds at most 16 counts (R77). Every step keeps each of the three. -/
def Obligations.EveryStepKeepsQueueAlarmAndTime : Prop :=
  ∀ s t : State, step s = .next t →
    (s.QueueBounded → t.QueueBounded) ∧ (s.AlarmFollows → t.AlarmFollows) ∧ (s.TimeInRange → t.TimeInRange)

/-- The Stream Table keeps its entries as R95 lays down: one per input PID, at most 128, no two PASS entries with one produced
PID. A cue list never holds more than 8 cues, nor two of one event id (R108). Every step keeps each of the two. -/
def Obligations.EveryStepKeepsTheTables : Prop :=
  ∀ s t : State, step s = .next t → (s.st.Consistent → t.st.Consistent) ∧ (s.CueListsLawful → t.CueListsLawful)

/-- Every clip-memory page is in exactly one place, the free list or the page list of one record that is not FREE (R131), and the
stores keep their canonical form. Every step keeps it. -/
def Obligations.EveryStepKeepsTheClipPages : Prop :=
  ∀ s t : State, s.cm.PagesAccounted → s.cm.StoresCanonical → step s = .next t → t.cm.PagesAccounted ∧ t.cm.StoresCanonical

/-- The law of the gate (R44, R163, R164): while the requested state is not RUN, no departure slot begins a packet at port T other
than a null packet; and in no requested state does any other command, a group start and the late starts that a pulse, TIME_SET, a
packet taken or any other command lets take place among them, since what they release is position 0, a cadence packet (R12, R42).
-/
def Obligations.NothingButNullsUnlessRun : Prop :=
  ∀ (c : Instr) (s t : State), s.CadenceLeads → c ≠ .departureSlot ∨ s.su.requested ≠ .run → exec c s = .next t →
    t.lines.portT = s.lines.portT ∨ t.lines.portT = none ∨ ∃ p, t.lines.portT = some p ∧ pidOf p = 8191

/-- Decoding the parameter bytes of a command gives the command back, for every command whose parameters fit their fields (11.6);
bytes beyond those it reads are ignored, and of fewer than it needs nothing is decoded (R188). -/
def Obligations.DecodeOfEncodedParams : Prop :=
  (∀ (c : Command) (extra : List Byte), c.wellFormed = true →
    decodeParams (codeOf c) (encodeParams c ++ extra) = some c)
  ∧ (∀ (c : Command) (n : Nat), c.wellFormed = true → n < (encodeParams c).length →
    decodeParams (codeOf c) ((encodeParams c).take n) = none)

/-- A packet on PID 8180 goes to the Management Unit, at port L on arrival (R21) and from a feed at stage 1 of its position, which
then carries a null packet (R42). It is tested for form and CRC, then for its address, a failure being counted and nothing else
happening (R187); then for its code, UNKNOWN, for the authority of a feed command, AUTHORITY, each counted with MGMT_REFUSED
raised, and for its parameters, RANGE where they are fewer than the command needs (R188) or a presence byte in them is neither 0
nor 1 (the model's choice, log entry 17). One that passes is its command, executed as the command's row (R189); with a restart
pending it is discarded uncounted (log entry 27). The row of a management command is that execution of its command, TIME_SET with
the late starts after it (R27, log entry 40). So a packet that carries a well-formed command to this unit is that command at port
L and in a feed. -/
def Obligations.CommandPacketIsItsCommand : Prop :=
  (∀ (s u : State) (packet : Packet), pidOf packet = 8180 →
    u = s.modifyFramer .l (fun x =>
      { x with
        badSync := 0
        counters := { x.counters with
                      taken := count x.counters.taken
                      transportErrors := countIf (transportError packet) x.counters.transportErrors } }) →
    (∀ sync, s.lines.resetHeld = false → (s.framer .l).link = .locked →
      exec (.packetTaken .l sync packet) s = .next (State.settle (u.managementPacket .portL packet)))
    ∧ (∀ start arrival, s.stages start arrival packet = (s.managementPacket .feed packet, nullPacket)))
  ∧ (∀ (s k : State) (source : Source) (packet pay : Packet) (n a : Nat) (tag code : Byte) (form addressed : Prop)
      (counters : ManagementCounters → State),
    pay = payloadOf packet → a = fieldAt pay 0 2 → code = byteAt pay 2 → tag = byteAt pay 3 → n = fieldAt pay 4 1 →
    form = (transportError packet = false ∧ payloadPresent packet = true ∧ scrambling packet = 0 ∧ n ≤ 170
      ∧ 9 + n ≤ pay.length ∧ fieldAt pay (5 + n) 4 = (crc32 (pay.take (5 + n))).toNat) →
    addressed = (a = 65535 ∨ (a = s.mu.unitAddress.toNat ∧ a ≠ 0) ∨ (a = s.mu.group0 ∧ a ≠ 0) ∨ (a = s.mu.group1 ∧ a ≠ 0)) →
    k = s.heard source → counters = (fun x => { s with mu := { s.mu with counters := x } }) →
    (s.mu.restartPending = true → s.managementPacket source packet = s)
    ∧ (s.mu.restartPending = false →
      (¬ form → s.managementPacket source packet =
        counters { s.mu.counters with crcFailures := count s.mu.counters.crcFailures })
      ∧ (form → ¬ addressed → s.managementPacket source packet =
        counters { s.mu.counters with addressMismatches := count s.mu.counters.addressMismatches })
      ∧ (form → addressed →
        (classOfCode code = none → ∃ u : State, s.managementPacket source packet = u.reply tag code .unknown []
          ∧ u = { k with su := u.su, mu := u.mu }
          ∧ u.RaisedFrom s.su
              { k.mu with
                counters := { k.mu.counters with unknownCommands := count k.mu.counters.unknownCommands } } .mgmtRefused)
        ∧ (∀ cls, classOfCode code = some cls →
          (s.mu.allows source cls = false → ∃ u : State, s.managementPacket source packet = u.reply tag code .authority []
            ∧ u = { k with su := u.su, mu := u.mu }
            ∧ u.RaisedFrom s.su
                { k.mu with
                  counters := { k.mu.counters with authorityRefusals := count k.mu.counters.authorityRefusals } } .mgmtRefused)
          ∧ (s.mu.allows source cls = true → decodeParams code ((pay.drop 5).take n) = none →
            s.managementPacket source packet = k.reply tag code .range [])
          ∧ (∀ c, s.mu.allows source cls = true → decodeParams code ((pay.drop 5).take n) = some c →
            s.managementPacket source packet = s.manage ⟨source, tag⟩ c ∧ codeOf c = code)))))
  ∧ (∀ (s : State) (c : Command) (tag : Byte) (a : Nat), c.wellFormed = true → a < 65536 → (encodeParams c).length ≤ 170 →
    (a = 65535 ∨ (a = s.mu.unitAddress.toNat ∧ a ≠ 0) ∨ (a = s.mu.group0 ∧ a ≠ 0) ∨ (a = s.mu.group1 ∧ a ≠ 0)) →
    (∀ sync, s.lines.resetHeld = false → (s.framer .l).link = .locked →
      exec (.packetTaken .l sync (commandPacket a tag c)) s = .next (State.settle (State.manage
        (s.modifyFramer .l fun x =>
          { x with badSync := 0, counters := { x.counters with taken := count x.counters.taken } })
        ⟨.portL, tag⟩ c)))
    ∧ (∀ start arrival, s.stages start arrival (commandPacket a tag c) = (s.manage ⟨.feed, tag⟩ c, nullPacket)))
  ∧ (∀ (i : Instr) (c : Command) (h : Header) (s : State), i.command? = some c → i.header? = some h → s.lines.resetHeld = false →
    exec i s = .next (match c with | .timeSet _ => (s.manage h c).settle | _ => s.manage h c))
end

