-- ==== Sys2Proof/Laws/State.lean ====
section
/-! SUPPORT. One lemma per field per update of the state: what each shared update leaves as it was. -/

namespace Sys2Proof.Machine

@[simp] theorem State.modifyChannel_fi (s : State) (c : Fin 4) (f : Channel → Channel) : (s.modifyChannel c f).fi = s.fi := rfl
@[simp] theorem State.modifyChannel_ds (s : State) (c : Fin 4) (f : Channel → Channel) : (s.modifyChannel c f).ds = s.ds := rfl
@[simp] theorem State.modifyChannel_re (s : State) (c : Fin 4) (f : Channel → Channel) : (s.modifyChannel c f).re = s.re := rfl
@[simp] theorem State.modifyChannel_dt (s : State) (c : Fin 4) (f : Channel → Channel) : (s.modifyChannel c f).dt = s.dt := rfl
@[simp] theorem State.modifyChannel_tu (s : State) (c : Fin 4) (f : Channel → Channel) : (s.modifyChannel c f).tu = s.tu := rfl
@[simp] theorem State.modifyChannel_st (s : State) (c : Fin 4) (f : Channel → Channel) : (s.modifyChannel c f).st = s.st := rfl
@[simp] theorem State.modifyChannel_cm (s : State) (c : Fin 4) (f : Channel → Channel) : (s.modifyChannel c f).cm = s.cm := rfl
@[simp] theorem State.modifyChannel_su (s : State) (c : Fin 4) (f : Channel → Channel) : (s.modifyChannel c f).su = s.su := rfl
@[simp] theorem State.modifyChannel_mu (s : State) (c : Fin 4) (f : Channel → Channel) : (s.modifyChannel c f).mu = s.mu := rfl
@[simp] theorem State.modifyChannel_lines (s : State) (c : Fin 4) (f : Channel → Channel) : (s.modifyChannel c f).lines = s.lines := rfl
@[simp] theorem State.modifyChannel_model (s : State) (c : Fin 4) (f : Channel → Channel) : (s.modifyChannel c f).model = s.model := rfl
@[simp] theorem State.modifyChannel_pending (s : State) (c : Fin 4) (f : Channel → Channel) : (s.modifyChannel c f).pending = s.pending := rfl

@[simp] theorem State.modifyFramer_ds (s : State) (p : Port) (f : Framer → Framer) : (s.modifyFramer p f).ds = s.ds := rfl
@[simp] theorem State.modifyFramer_re (s : State) (p : Port) (f : Framer → Framer) : (s.modifyFramer p f).re = s.re := rfl
@[simp] theorem State.modifyFramer_dt (s : State) (p : Port) (f : Framer → Framer) : (s.modifyFramer p f).dt = s.dt := rfl
@[simp] theorem State.modifyFramer_tu (s : State) (p : Port) (f : Framer → Framer) : (s.modifyFramer p f).tu = s.tu := rfl
@[simp] theorem State.modifyFramer_st (s : State) (p : Port) (f : Framer → Framer) : (s.modifyFramer p f).st = s.st := rfl
@[simp] theorem State.modifyFramer_sc (s : State) (p : Port) (f : Framer → Framer) : (s.modifyFramer p f).sc = s.sc := rfl
@[simp] theorem State.modifyFramer_cm (s : State) (p : Port) (f : Framer → Framer) : (s.modifyFramer p f).cm = s.cm := rfl
@[simp] theorem State.modifyFramer_su (s : State) (p : Port) (f : Framer → Framer) : (s.modifyFramer p f).su = s.su := rfl
@[simp] theorem State.modifyFramer_mu (s : State) (p : Port) (f : Framer → Framer) : (s.modifyFramer p f).mu = s.mu := rfl
@[simp] theorem State.modifyFramer_lines (s : State) (p : Port) (f : Framer → Framer) : (s.modifyFramer p f).lines = s.lines := rfl
@[simp] theorem State.modifyFramer_model (s : State) (p : Port) (f : Framer → Framer) : (s.modifyFramer p f).model = s.model := rfl
@[simp] theorem State.modifyFramer_pending (s : State) (p : Port) (f : Framer → Framer) : (s.modifyFramer p f).pending = s.pending := rfl

@[simp] theorem State.countIntake_ds (s : State) (p : Port) (f : IntakeCounters → IntakeCounters) : (s.countIntake p f).ds = s.ds := rfl
@[simp] theorem State.countIntake_re (s : State) (p : Port) (f : IntakeCounters → IntakeCounters) : (s.countIntake p f).re = s.re := rfl
@[simp] theorem State.countIntake_dt (s : State) (p : Port) (f : IntakeCounters → IntakeCounters) : (s.countIntake p f).dt = s.dt := rfl
@[simp] theorem State.countIntake_tu (s : State) (p : Port) (f : IntakeCounters → IntakeCounters) : (s.countIntake p f).tu = s.tu := rfl
@[simp] theorem State.countIntake_st (s : State) (p : Port) (f : IntakeCounters → IntakeCounters) : (s.countIntake p f).st = s.st := rfl
@[simp] theorem State.countIntake_sc (s : State) (p : Port) (f : IntakeCounters → IntakeCounters) : (s.countIntake p f).sc = s.sc := rfl
@[simp] theorem State.countIntake_cm (s : State) (p : Port) (f : IntakeCounters → IntakeCounters) : (s.countIntake p f).cm = s.cm := rfl
@[simp] theorem State.countIntake_su (s : State) (p : Port) (f : IntakeCounters → IntakeCounters) : (s.countIntake p f).su = s.su := rfl
@[simp] theorem State.countIntake_mu (s : State) (p : Port) (f : IntakeCounters → IntakeCounters) : (s.countIntake p f).mu = s.mu := rfl
@[simp] theorem State.countIntake_lines (s : State) (p : Port) (f : IntakeCounters → IntakeCounters) : (s.countIntake p f).lines = s.lines := rfl
@[simp] theorem State.countIntake_model (s : State) (p : Port) (f : IntakeCounters → IntakeCounters) : (s.countIntake p f).model = s.model := rfl
@[simp] theorem State.countIntake_pending (s : State) (p : Port) (f : IntakeCounters → IntakeCounters) : (s.countIntake p f).pending = s.pending := rfl

@[simp] theorem State.account_fi (s : State) (f : Feed) (g : Accounting → Accounting) : (s.account f g).fi = s.fi := rfl
@[simp] theorem State.account_re (s : State) (f : Feed) (g : Accounting → Accounting) : (s.account f g).re = s.re := rfl
@[simp] theorem State.account_dt (s : State) (f : Feed) (g : Accounting → Accounting) : (s.account f g).dt = s.dt := rfl
@[simp] theorem State.account_tu (s : State) (f : Feed) (g : Accounting → Accounting) : (s.account f g).tu = s.tu := rfl
@[simp] theorem State.account_st (s : State) (f : Feed) (g : Accounting → Accounting) : (s.account f g).st = s.st := rfl
@[simp] theorem State.account_sc (s : State) (f : Feed) (g : Accounting → Accounting) : (s.account f g).sc = s.sc := rfl
@[simp] theorem State.account_cm (s : State) (f : Feed) (g : Accounting → Accounting) : (s.account f g).cm = s.cm := rfl
@[simp] theorem State.account_su (s : State) (f : Feed) (g : Accounting → Accounting) : (s.account f g).su = s.su := rfl
@[simp] theorem State.account_mu (s : State) (f : Feed) (g : Accounting → Accounting) : (s.account f g).mu = s.mu := rfl
@[simp] theorem State.account_lines (s : State) (f : Feed) (g : Accounting → Accounting) : (s.account f g).lines = s.lines := rfl
@[simp] theorem State.account_model (s : State) (f : Feed) (g : Accounting → Accounting) : (s.account f g).model = s.model := rfl
@[simp] theorem State.account_pending (s : State) (f : Feed) (g : Accounting → Accounting) : (s.account f g).pending = s.pending := rfl

@[simp] theorem State.countRelease_fi (s : State) (f : ReleaseCounters → ReleaseCounters) : (s.countRelease f).fi = s.fi := rfl
@[simp] theorem State.countRelease_ds (s : State) (f : ReleaseCounters → ReleaseCounters) : (s.countRelease f).ds = s.ds := rfl
@[simp] theorem State.countRelease_dt (s : State) (f : ReleaseCounters → ReleaseCounters) : (s.countRelease f).dt = s.dt := rfl
@[simp] theorem State.countRelease_tu (s : State) (f : ReleaseCounters → ReleaseCounters) : (s.countRelease f).tu = s.tu := rfl
@[simp] theorem State.countRelease_st (s : State) (f : ReleaseCounters → ReleaseCounters) : (s.countRelease f).st = s.st := rfl
@[simp] theorem State.countRelease_sc (s : State) (f : ReleaseCounters → ReleaseCounters) : (s.countRelease f).sc = s.sc := rfl
@[simp] theorem State.countRelease_cm (s : State) (f : ReleaseCounters → ReleaseCounters) : (s.countRelease f).cm = s.cm := rfl
@[simp] theorem State.countRelease_su (s : State) (f : ReleaseCounters → ReleaseCounters) : (s.countRelease f).su = s.su := rfl
@[simp] theorem State.countRelease_mu (s : State) (f : ReleaseCounters → ReleaseCounters) : (s.countRelease f).mu = s.mu := rfl
@[simp] theorem State.countRelease_lines (s : State) (f : ReleaseCounters → ReleaseCounters) : (s.countRelease f).lines = s.lines := rfl
@[simp] theorem State.countRelease_model (s : State) (f : ReleaseCounters → ReleaseCounters) : (s.countRelease f).model = s.model := rfl
@[simp] theorem State.countRelease_pending (s : State) (f : ReleaseCounters → ReleaseCounters) : (s.countRelease f).pending = s.pending := rfl

@[simp] theorem State.countTiming_fi (s : State) (f : TimingCounters → TimingCounters) : (s.countTiming f).fi = s.fi := rfl
@[simp] theorem State.countTiming_ds (s : State) (f : TimingCounters → TimingCounters) : (s.countTiming f).ds = s.ds := rfl
@[simp] theorem State.countTiming_re (s : State) (f : TimingCounters → TimingCounters) : (s.countTiming f).re = s.re := rfl
@[simp] theorem State.countTiming_dt (s : State) (f : TimingCounters → TimingCounters) : (s.countTiming f).dt = s.dt := rfl
@[simp] theorem State.countTiming_st (s : State) (f : TimingCounters → TimingCounters) : (s.countTiming f).st = s.st := rfl
@[simp] theorem State.countTiming_sc (s : State) (f : TimingCounters → TimingCounters) : (s.countTiming f).sc = s.sc := rfl
@[simp] theorem State.countTiming_cm (s : State) (f : TimingCounters → TimingCounters) : (s.countTiming f).cm = s.cm := rfl
@[simp] theorem State.countTiming_su (s : State) (f : TimingCounters → TimingCounters) : (s.countTiming f).su = s.su := rfl
@[simp] theorem State.countTiming_mu (s : State) (f : TimingCounters → TimingCounters) : (s.countTiming f).mu = s.mu := rfl
@[simp] theorem State.countTiming_lines (s : State) (f : TimingCounters → TimingCounters) : (s.countTiming f).lines = s.lines := rfl
@[simp] theorem State.countTiming_model (s : State) (f : TimingCounters → TimingCounters) : (s.countTiming f).model = s.model := rfl
@[simp] theorem State.countTiming_pending (s : State) (f : TimingCounters → TimingCounters) : (s.countTiming f).pending = s.pending := rfl

@[simp] theorem State.countChannel_fi (s : State) (c : Fin 4) (f : ChannelCounters → ChannelCounters) : (s.countChannel c f).fi = s.fi := rfl
@[simp] theorem State.countChannel_ds (s : State) (c : Fin 4) (f : ChannelCounters → ChannelCounters) : (s.countChannel c f).ds = s.ds := rfl
@[simp] theorem State.countChannel_re (s : State) (c : Fin 4) (f : ChannelCounters → ChannelCounters) : (s.countChannel c f).re = s.re := rfl
@[simp] theorem State.countChannel_dt (s : State) (c : Fin 4) (f : ChannelCounters → ChannelCounters) : (s.countChannel c f).dt = s.dt := rfl
@[simp] theorem State.countChannel_tu (s : State) (c : Fin 4) (f : ChannelCounters → ChannelCounters) : (s.countChannel c f).tu = s.tu := rfl
@[simp] theorem State.countChannel_st (s : State) (c : Fin 4) (f : ChannelCounters → ChannelCounters) : (s.countChannel c f).st = s.st := rfl
@[simp] theorem State.countChannel_cm (s : State) (c : Fin 4) (f : ChannelCounters → ChannelCounters) : (s.countChannel c f).cm = s.cm := rfl
@[simp] theorem State.countChannel_su (s : State) (c : Fin 4) (f : ChannelCounters → ChannelCounters) : (s.countChannel c f).su = s.su := rfl
@[simp] theorem State.countChannel_mu (s : State) (c : Fin 4) (f : ChannelCounters → ChannelCounters) : (s.countChannel c f).mu = s.mu := rfl
@[simp] theorem State.countChannel_lines (s : State) (c : Fin 4) (f : ChannelCounters → ChannelCounters) : (s.countChannel c f).lines = s.lines := rfl
@[simp] theorem State.countChannel_model (s : State) (c : Fin 4) (f : ChannelCounters → ChannelCounters) : (s.countChannel c f).model = s.model := rfl
@[simp] theorem State.countChannel_pending (s : State) (c : Fin 4) (f : ChannelCounters → ChannelCounters) : (s.countChannel c f).pending = s.pending := rfl

@[simp] theorem State.countClip_fi (s : State) (f : ClipCounters → ClipCounters) : (s.countClip f).fi = s.fi := rfl
@[simp] theorem State.countClip_ds (s : State) (f : ClipCounters → ClipCounters) : (s.countClip f).ds = s.ds := rfl
@[simp] theorem State.countClip_re (s : State) (f : ClipCounters → ClipCounters) : (s.countClip f).re = s.re := rfl
@[simp] theorem State.countClip_dt (s : State) (f : ClipCounters → ClipCounters) : (s.countClip f).dt = s.dt := rfl
@[simp] theorem State.countClip_tu (s : State) (f : ClipCounters → ClipCounters) : (s.countClip f).tu = s.tu := rfl
@[simp] theorem State.countClip_st (s : State) (f : ClipCounters → ClipCounters) : (s.countClip f).st = s.st := rfl
@[simp] theorem State.countClip_sc (s : State) (f : ClipCounters → ClipCounters) : (s.countClip f).sc = s.sc := rfl
@[simp] theorem State.countClip_su (s : State) (f : ClipCounters → ClipCounters) : (s.countClip f).su = s.su := rfl
@[simp] theorem State.countClip_mu (s : State) (f : ClipCounters → ClipCounters) : (s.countClip f).mu = s.mu := rfl
@[simp] theorem State.countClip_lines (s : State) (f : ClipCounters → ClipCounters) : (s.countClip f).lines = s.lines := rfl
@[simp] theorem State.countClip_model (s : State) (f : ClipCounters → ClipCounters) : (s.countClip f).model = s.model := rfl
@[simp] theorem State.countClip_pending (s : State) (f : ClipCounters → ClipCounters) : (s.countClip f).pending = s.pending := rfl

@[simp] theorem State.countManagement_fi (s : State) (f : ManagementCounters → ManagementCounters) : (s.countManagement f).fi = s.fi := rfl
@[simp] theorem State.countManagement_ds (s : State) (f : ManagementCounters → ManagementCounters) : (s.countManagement f).ds = s.ds := rfl
@[simp] theorem State.countManagement_re (s : State) (f : ManagementCounters → ManagementCounters) : (s.countManagement f).re = s.re := rfl
@[simp] theorem State.countManagement_dt (s : State) (f : ManagementCounters → ManagementCounters) : (s.countManagement f).dt = s.dt := rfl
@[simp] theorem State.countManagement_tu (s : State) (f : ManagementCounters → ManagementCounters) : (s.countManagement f).tu = s.tu := rfl
@[simp] theorem State.countManagement_st (s : State) (f : ManagementCounters → ManagementCounters) : (s.countManagement f).st = s.st := rfl
@[simp] theorem State.countManagement_sc (s : State) (f : ManagementCounters → ManagementCounters) : (s.countManagement f).sc = s.sc := rfl
@[simp] theorem State.countManagement_cm (s : State) (f : ManagementCounters → ManagementCounters) : (s.countManagement f).cm = s.cm := rfl
@[simp] theorem State.countManagement_su (s : State) (f : ManagementCounters → ManagementCounters) : (s.countManagement f).su = s.su := rfl
@[simp] theorem State.countManagement_lines (s : State) (f : ManagementCounters → ManagementCounters) : (s.countManagement f).lines = s.lines := rfl
@[simp] theorem State.countManagement_model (s : State) (f : ManagementCounters → ManagementCounters) : (s.countManagement f).model = s.model := rfl
@[simp] theorem State.countManagement_pending (s : State) (f : ManagementCounters → ManagementCounters) : (s.countManagement f).pending = s.pending := rfl

@[simp] theorem State.raise_fi (s : State) (e : EventFlag) : (s.raise e).fi = s.fi := rfl
@[simp] theorem State.raise_ds (s : State) (e : EventFlag) : (s.raise e).ds = s.ds := rfl
@[simp] theorem State.raise_re (s : State) (e : EventFlag) : (s.raise e).re = s.re := rfl
@[simp] theorem State.raise_dt (s : State) (e : EventFlag) : (s.raise e).dt = s.dt := rfl
@[simp] theorem State.raise_tu (s : State) (e : EventFlag) : (s.raise e).tu = s.tu := rfl
@[simp] theorem State.raise_st (s : State) (e : EventFlag) : (s.raise e).st = s.st := rfl
@[simp] theorem State.raise_sc (s : State) (e : EventFlag) : (s.raise e).sc = s.sc := rfl
@[simp] theorem State.raise_cm (s : State) (e : EventFlag) : (s.raise e).cm = s.cm := rfl
@[simp] theorem State.raise_lines (s : State) (e : EventFlag) : (s.raise e).lines = s.lines := rfl
@[simp] theorem State.raise_model (s : State) (e : EventFlag) : (s.raise e).model = s.model := rfl
@[simp] theorem State.raise_pending (s : State) (e : EventFlag) : (s.raise e).pending = s.pending := rfl

@[simp] theorem State.reply_fi (s : State) (tag code : Byte) (x : Status) (d : List Byte) : (s.reply tag code x d).fi = s.fi := rfl
@[simp] theorem State.reply_ds (s : State) (tag code : Byte) (x : Status) (d : List Byte) : (s.reply tag code x d).ds = s.ds := rfl
@[simp] theorem State.reply_re (s : State) (tag code : Byte) (x : Status) (d : List Byte) : (s.reply tag code x d).re = s.re := rfl
@[simp] theorem State.reply_dt (s : State) (tag code : Byte) (x : Status) (d : List Byte) : (s.reply tag code x d).dt = s.dt := rfl
@[simp] theorem State.reply_tu (s : State) (tag code : Byte) (x : Status) (d : List Byte) : (s.reply tag code x d).tu = s.tu := rfl
@[simp] theorem State.reply_st (s : State) (tag code : Byte) (x : Status) (d : List Byte) : (s.reply tag code x d).st = s.st := rfl
@[simp] theorem State.reply_sc (s : State) (tag code : Byte) (x : Status) (d : List Byte) : (s.reply tag code x d).sc = s.sc := rfl
@[simp] theorem State.reply_cm (s : State) (tag code : Byte) (x : Status) (d : List Byte) : (s.reply tag code x d).cm = s.cm := rfl
@[simp] theorem State.reply_su (s : State) (tag code : Byte) (x : Status) (d : List Byte) : (s.reply tag code x d).su = s.su := rfl
@[simp] theorem State.reply_lines (s : State) (tag code : Byte) (x : Status) (d : List Byte) : (s.reply tag code x d).lines = s.lines := rfl
@[simp] theorem State.reply_model (s : State) (tag code : Byte) (x : Status) (d : List Byte) : (s.reply tag code x d).model = s.model := rfl
@[simp] theorem State.reply_pending (s : State) (tag code : Byte) (x : Status) (d : List Byte) : (s.reply tag code x d).pending = s.pending := rfl

@[simp] theorem State.setRing_fi (s : State) (f : Feed) (r : Ring) : (s.setRing f r).fi = s.fi := rfl
@[simp] theorem State.setRing_re (s : State) (f : Feed) (r : Ring) : (s.setRing f r).re = s.re := rfl
@[simp] theorem State.setRing_dt (s : State) (f : Feed) (r : Ring) : (s.setRing f r).dt = s.dt := rfl
@[simp] theorem State.setRing_tu (s : State) (f : Feed) (r : Ring) : (s.setRing f r).tu = s.tu := rfl
@[simp] theorem State.setRing_st (s : State) (f : Feed) (r : Ring) : (s.setRing f r).st = s.st := rfl
@[simp] theorem State.setRing_sc (s : State) (f : Feed) (r : Ring) : (s.setRing f r).sc = s.sc := rfl
@[simp] theorem State.setRing_cm (s : State) (f : Feed) (r : Ring) : (s.setRing f r).cm = s.cm := rfl
@[simp] theorem State.setRing_su (s : State) (f : Feed) (r : Ring) : (s.setRing f r).su = s.su := rfl
@[simp] theorem State.setRing_mu (s : State) (f : Feed) (r : Ring) : (s.setRing f r).mu = s.mu := rfl
@[simp] theorem State.setRing_lines (s : State) (f : Feed) (r : Ring) : (s.setRing f r).lines = s.lines := rfl
@[simp] theorem State.setRing_model (s : State) (f : Feed) (r : Ring) : (s.setRing f r).model = s.model := rfl
@[simp] theorem State.setRing_pending (s : State) (f : Feed) (r : Ring) : (s.setRing f r).pending = s.pending := rfl

@[simp] theorem State.setTable_fi (s : State) (f : Feed) (t : List GroupRecord) : (s.setTable f t).fi = s.fi := rfl
@[simp] theorem State.setTable_re (s : State) (f : Feed) (t : List GroupRecord) : (s.setTable f t).re = s.re := rfl
@[simp] theorem State.setTable_dt (s : State) (f : Feed) (t : List GroupRecord) : (s.setTable f t).dt = s.dt := rfl
@[simp] theorem State.setTable_tu (s : State) (f : Feed) (t : List GroupRecord) : (s.setTable f t).tu = s.tu := rfl
@[simp] theorem State.setTable_st (s : State) (f : Feed) (t : List GroupRecord) : (s.setTable f t).st = s.st := rfl
@[simp] theorem State.setTable_sc (s : State) (f : Feed) (t : List GroupRecord) : (s.setTable f t).sc = s.sc := rfl
@[simp] theorem State.setTable_cm (s : State) (f : Feed) (t : List GroupRecord) : (s.setTable f t).cm = s.cm := rfl
@[simp] theorem State.setTable_su (s : State) (f : Feed) (t : List GroupRecord) : (s.setTable f t).su = s.su := rfl
@[simp] theorem State.setTable_mu (s : State) (f : Feed) (t : List GroupRecord) : (s.setTable f t).mu = s.mu := rfl
@[simp] theorem State.setTable_lines (s : State) (f : Feed) (t : List GroupRecord) : (s.setTable f t).lines = s.lines := rfl
@[simp] theorem State.setTable_model (s : State) (f : Feed) (t : List GroupRecord) : (s.setTable f t).model = s.model := rfl
@[simp] theorem State.setTable_pending (s : State) (f : Feed) (t : List GroupRecord) : (s.setTable f t).pending = s.pending := rfl

@[simp] theorem State.setOpen_ds (s : State) (f : Feed) (g : Option OpenGroup) : (s.setOpen f g).ds = s.ds := rfl
@[simp] theorem State.setOpen_re (s : State) (f : Feed) (g : Option OpenGroup) : (s.setOpen f g).re = s.re := rfl
@[simp] theorem State.setOpen_dt (s : State) (f : Feed) (g : Option OpenGroup) : (s.setOpen f g).dt = s.dt := rfl
@[simp] theorem State.setOpen_tu (s : State) (f : Feed) (g : Option OpenGroup) : (s.setOpen f g).tu = s.tu := rfl
@[simp] theorem State.setOpen_st (s : State) (f : Feed) (g : Option OpenGroup) : (s.setOpen f g).st = s.st := rfl
@[simp] theorem State.setOpen_sc (s : State) (f : Feed) (g : Option OpenGroup) : (s.setOpen f g).sc = s.sc := rfl
@[simp] theorem State.setOpen_cm (s : State) (f : Feed) (g : Option OpenGroup) : (s.setOpen f g).cm = s.cm := rfl
@[simp] theorem State.setOpen_su (s : State) (f : Feed) (g : Option OpenGroup) : (s.setOpen f g).su = s.su := rfl
@[simp] theorem State.setOpen_mu (s : State) (f : Feed) (g : Option OpenGroup) : (s.setOpen f g).mu = s.mu := rfl
@[simp] theorem State.setOpen_lines (s : State) (f : Feed) (g : Option OpenGroup) : (s.setOpen f g).lines = s.lines := rfl
@[simp] theorem State.setOpen_model (s : State) (f : Feed) (g : Option OpenGroup) : (s.setOpen f g).model = s.model := rfl
@[simp] theorem State.setOpen_pending (s : State) (f : Feed) (g : Option OpenGroup) : (s.setOpen f g).pending = s.pending := rfl

@[simp] theorem State.setTrace_fi (s : State) (t : Trace) : (s.setTrace t).fi = s.fi := rfl
@[simp] theorem State.setTrace_ds (s : State) (t : Trace) : (s.setTrace t).ds = s.ds := rfl
@[simp] theorem State.setTrace_re (s : State) (t : Trace) : (s.setTrace t).re = s.re := rfl
@[simp] theorem State.setTrace_dt (s : State) (t : Trace) : (s.setTrace t).dt = s.dt := rfl
@[simp] theorem State.setTrace_tu (s : State) (t : Trace) : (s.setTrace t).tu = s.tu := rfl
@[simp] theorem State.setTrace_st (s : State) (t : Trace) : (s.setTrace t).st = s.st := rfl
@[simp] theorem State.setTrace_sc (s : State) (t : Trace) : (s.setTrace t).sc = s.sc := rfl
@[simp] theorem State.setTrace_cm (s : State) (t : Trace) : (s.setTrace t).cm = s.cm := rfl
@[simp] theorem State.setTrace_mu (s : State) (t : Trace) : (s.setTrace t).mu = s.mu := rfl
@[simp] theorem State.setTrace_lines (s : State) (t : Trace) : (s.setTrace t).lines = s.lines := rfl
@[simp] theorem State.setTrace_model (s : State) (t : Trace) : (s.setTrace t).model = s.model := rfl
@[simp] theorem State.setTrace_pending (s : State) (t : Trace) : (s.setTrace t).pending = s.pending := rfl

@[simp] theorem State.setReadIndex_fi (s : State) (f : Feed) (i : Nat) : (s.setReadIndex f i).fi = s.fi := rfl
@[simp] theorem State.setReadIndex_ds (s : State) (f : Feed) (i : Nat) : (s.setReadIndex f i).ds = s.ds := rfl
@[simp] theorem State.setReadIndex_dt (s : State) (f : Feed) (i : Nat) : (s.setReadIndex f i).dt = s.dt := rfl
@[simp] theorem State.setReadIndex_tu (s : State) (f : Feed) (i : Nat) : (s.setReadIndex f i).tu = s.tu := rfl
@[simp] theorem State.setReadIndex_st (s : State) (f : Feed) (i : Nat) : (s.setReadIndex f i).st = s.st := rfl
@[simp] theorem State.setReadIndex_sc (s : State) (f : Feed) (i : Nat) : (s.setReadIndex f i).sc = s.sc := rfl
@[simp] theorem State.setReadIndex_cm (s : State) (f : Feed) (i : Nat) : (s.setReadIndex f i).cm = s.cm := rfl
@[simp] theorem State.setReadIndex_su (s : State) (f : Feed) (i : Nat) : (s.setReadIndex f i).su = s.su := rfl
@[simp] theorem State.setReadIndex_mu (s : State) (f : Feed) (i : Nat) : (s.setReadIndex f i).mu = s.mu := rfl
@[simp] theorem State.setReadIndex_lines (s : State) (f : Feed) (i : Nat) : (s.setReadIndex f i).lines = s.lines := rfl
@[simp] theorem State.setReadIndex_model (s : State) (f : Feed) (i : Nat) : (s.setReadIndex f i).model = s.model := rfl
@[simp] theorem State.setReadIndex_pending (s : State) (f : Feed) (i : Nat) : (s.setReadIndex f i).pending = s.pending := rfl

@[simp] theorem State.discardSlots_fi (s : State) (f : Feed) (p : Slot → Bool) : (s.discardSlots f p).fi = s.fi := rfl
@[simp] theorem State.discardSlots_re (s : State) (f : Feed) (p : Slot → Bool) : (s.discardSlots f p).re = s.re := rfl
@[simp] theorem State.discardSlots_dt (s : State) (f : Feed) (p : Slot → Bool) : (s.discardSlots f p).dt = s.dt := rfl
@[simp] theorem State.discardSlots_tu (s : State) (f : Feed) (p : Slot → Bool) : (s.discardSlots f p).tu = s.tu := rfl
@[simp] theorem State.discardSlots_st (s : State) (f : Feed) (p : Slot → Bool) : (s.discardSlots f p).st = s.st := rfl
@[simp] theorem State.discardSlots_sc (s : State) (f : Feed) (p : Slot → Bool) : (s.discardSlots f p).sc = s.sc := rfl
@[simp] theorem State.discardSlots_cm (s : State) (f : Feed) (p : Slot → Bool) : (s.discardSlots f p).cm = s.cm := rfl
@[simp] theorem State.discardSlots_su (s : State) (f : Feed) (p : Slot → Bool) : (s.discardSlots f p).su = s.su := rfl
@[simp] theorem State.discardSlots_mu (s : State) (f : Feed) (p : Slot → Bool) : (s.discardSlots f p).mu = s.mu := rfl
@[simp] theorem State.discardSlots_lines (s : State) (f : Feed) (p : Slot → Bool) : (s.discardSlots f p).lines = s.lines := rfl
@[simp] theorem State.discardSlots_model (s : State) (f : Feed) (p : Slot → Bool) : (s.discardSlots f p).model = s.model := rfl
@[simp] theorem State.discardSlots_pending (s : State) (f : Feed) (p : Slot → Bool) : (s.discardSlots f p).pending = s.pending := rfl

@[simp] theorem State.takeSlot_fi (s : State) (f : Feed) (p : Slot → Bool) : (s.takeSlot f p).fi = s.fi := rfl
@[simp] theorem State.takeSlot_re (s : State) (f : Feed) (p : Slot → Bool) : (s.takeSlot f p).re = s.re := rfl
@[simp] theorem State.takeSlot_dt (s : State) (f : Feed) (p : Slot → Bool) : (s.takeSlot f p).dt = s.dt := rfl
@[simp] theorem State.takeSlot_tu (s : State) (f : Feed) (p : Slot → Bool) : (s.takeSlot f p).tu = s.tu := rfl
@[simp] theorem State.takeSlot_st (s : State) (f : Feed) (p : Slot → Bool) : (s.takeSlot f p).st = s.st := rfl
@[simp] theorem State.takeSlot_sc (s : State) (f : Feed) (p : Slot → Bool) : (s.takeSlot f p).sc = s.sc := rfl
@[simp] theorem State.takeSlot_cm (s : State) (f : Feed) (p : Slot → Bool) : (s.takeSlot f p).cm = s.cm := rfl
@[simp] theorem State.takeSlot_su (s : State) (f : Feed) (p : Slot → Bool) : (s.takeSlot f p).su = s.su := rfl
@[simp] theorem State.takeSlot_mu (s : State) (f : Feed) (p : Slot → Bool) : (s.takeSlot f p).mu = s.mu := rfl
@[simp] theorem State.takeSlot_lines (s : State) (f : Feed) (p : Slot → Bool) : (s.takeSlot f p).lines = s.lines := rfl
@[simp] theorem State.takeSlot_model (s : State) (f : Feed) (p : Slot → Bool) : (s.takeSlot f p).model = s.model := rfl
@[simp] theorem State.takeSlot_pending (s : State) (f : Feed) (p : Slot → Bool) : (s.takeSlot f p).pending = s.pending := rfl

@[simp] theorem State.freeSlot_fi (s : State) (f : Feed) (i : Nat) : (s.freeSlot f i).fi = s.fi := rfl
@[simp] theorem State.freeSlot_re (s : State) (f : Feed) (i : Nat) : (s.freeSlot f i).re = s.re := rfl
@[simp] theorem State.freeSlot_dt (s : State) (f : Feed) (i : Nat) : (s.freeSlot f i).dt = s.dt := rfl
@[simp] theorem State.freeSlot_tu (s : State) (f : Feed) (i : Nat) : (s.freeSlot f i).tu = s.tu := rfl
@[simp] theorem State.freeSlot_st (s : State) (f : Feed) (i : Nat) : (s.freeSlot f i).st = s.st := rfl
@[simp] theorem State.freeSlot_sc (s : State) (f : Feed) (i : Nat) : (s.freeSlot f i).sc = s.sc := rfl
@[simp] theorem State.freeSlot_cm (s : State) (f : Feed) (i : Nat) : (s.freeSlot f i).cm = s.cm := rfl
@[simp] theorem State.freeSlot_su (s : State) (f : Feed) (i : Nat) : (s.freeSlot f i).su = s.su := rfl
@[simp] theorem State.freeSlot_mu (s : State) (f : Feed) (i : Nat) : (s.freeSlot f i).mu = s.mu := rfl
@[simp] theorem State.freeSlot_lines (s : State) (f : Feed) (i : Nat) : (s.freeSlot f i).lines = s.lines := rfl
@[simp] theorem State.freeSlot_model (s : State) (f : Feed) (i : Nat) : (s.freeSlot f i).model = s.model := rfl
@[simp] theorem State.freeSlot_pending (s : State) (f : Feed) (i : Nat) : (s.freeSlot f i).pending = s.pending := rfl

@[simp] theorem State.modifyGroup_fi (s : State) (f : Feed) (n : Cadence) (g : GroupRecord → GroupRecord) : (s.modifyGroup f n g).fi = s.fi := rfl
@[simp] theorem State.modifyGroup_re (s : State) (f : Feed) (n : Cadence) (g : GroupRecord → GroupRecord) : (s.modifyGroup f n g).re = s.re := rfl
@[simp] theorem State.modifyGroup_dt (s : State) (f : Feed) (n : Cadence) (g : GroupRecord → GroupRecord) : (s.modifyGroup f n g).dt = s.dt := rfl
@[simp] theorem State.modifyGroup_tu (s : State) (f : Feed) (n : Cadence) (g : GroupRecord → GroupRecord) : (s.modifyGroup f n g).tu = s.tu := rfl
@[simp] theorem State.modifyGroup_st (s : State) (f : Feed) (n : Cadence) (g : GroupRecord → GroupRecord) : (s.modifyGroup f n g).st = s.st := rfl
@[simp] theorem State.modifyGroup_sc (s : State) (f : Feed) (n : Cadence) (g : GroupRecord → GroupRecord) : (s.modifyGroup f n g).sc = s.sc := rfl
@[simp] theorem State.modifyGroup_cm (s : State) (f : Feed) (n : Cadence) (g : GroupRecord → GroupRecord) : (s.modifyGroup f n g).cm = s.cm := rfl
@[simp] theorem State.modifyGroup_su (s : State) (f : Feed) (n : Cadence) (g : GroupRecord → GroupRecord) : (s.modifyGroup f n g).su = s.su := rfl
@[simp] theorem State.modifyGroup_mu (s : State) (f : Feed) (n : Cadence) (g : GroupRecord → GroupRecord) : (s.modifyGroup f n g).mu = s.mu := rfl
@[simp] theorem State.modifyGroup_lines (s : State) (f : Feed) (n : Cadence) (g : GroupRecord → GroupRecord) : (s.modifyGroup f n g).lines = s.lines := rfl
@[simp] theorem State.modifyGroup_model (s : State) (f : Feed) (n : Cadence) (g : GroupRecord → GroupRecord) : (s.modifyGroup f n g).model = s.model := rfl
@[simp] theorem State.modifyGroup_pending (s : State) (f : Feed) (n : Cadence) (g : GroupRecord → GroupRecord) : (s.modifyGroup f n g).pending = s.pending := rfl

@[simp] theorem State.countDropped_fi (s : State) (f : Feed) : (s.countDropped f).fi = s.fi := rfl
@[simp] theorem State.countDropped_re (s : State) (f : Feed) : (s.countDropped f).re = s.re := rfl
@[simp] theorem State.countDropped_dt (s : State) (f : Feed) : (s.countDropped f).dt = s.dt := rfl
@[simp] theorem State.countDropped_tu (s : State) (f : Feed) : (s.countDropped f).tu = s.tu := rfl
@[simp] theorem State.countDropped_st (s : State) (f : Feed) : (s.countDropped f).st = s.st := rfl
@[simp] theorem State.countDropped_sc (s : State) (f : Feed) : (s.countDropped f).sc = s.sc := rfl
@[simp] theorem State.countDropped_cm (s : State) (f : Feed) : (s.countDropped f).cm = s.cm := rfl
@[simp] theorem State.countDropped_su (s : State) (f : Feed) : (s.countDropped f).su = s.su := rfl
@[simp] theorem State.countDropped_mu (s : State) (f : Feed) : (s.countDropped f).mu = s.mu := rfl
@[simp] theorem State.countDropped_lines (s : State) (f : Feed) : (s.countDropped f).lines = s.lines := rfl
@[simp] theorem State.countDropped_model (s : State) (f : Feed) : (s.countDropped f).model = s.model := rfl
@[simp] theorem State.countDropped_pending (s : State) (f : Feed) : (s.countDropped f).pending = s.pending := rfl

@[simp] theorem State.overflowSeen_fi (s : State) : (s.overflowSeen).fi = s.fi := rfl
@[simp] theorem State.overflowSeen_ds (s : State) : (s.overflowSeen).ds = s.ds := rfl
@[simp] theorem State.overflowSeen_re (s : State) : (s.overflowSeen).re = s.re := rfl
@[simp] theorem State.overflowSeen_dt (s : State) : (s.overflowSeen).dt = s.dt := rfl
@[simp] theorem State.overflowSeen_tu (s : State) : (s.overflowSeen).tu = s.tu := rfl
@[simp] theorem State.overflowSeen_st (s : State) : (s.overflowSeen).st = s.st := rfl
@[simp] theorem State.overflowSeen_sc (s : State) : (s.overflowSeen).sc = s.sc := rfl
@[simp] theorem State.overflowSeen_cm (s : State) : (s.overflowSeen).cm = s.cm := rfl
@[simp] theorem State.overflowSeen_lines (s : State) : (s.overflowSeen).lines = s.lines := rfl
@[simp] theorem State.overflowSeen_model (s : State) : (s.overflowSeen).model = s.model := rfl
@[simp] theorem State.overflowSeen_pending (s : State) : (s.overflowSeen).pending = s.pending := rfl

@[simp] theorem State.recandidate_fi (s : State) (due : Option Cadence) : (s.recandidate due).fi = s.fi := rfl
@[simp] theorem State.recandidate_ds (s : State) (due : Option Cadence) : (s.recandidate due).ds = s.ds := rfl
@[simp] theorem State.recandidate_dt (s : State) (due : Option Cadence) : (s.recandidate due).dt = s.dt := rfl
@[simp] theorem State.recandidate_tu (s : State) (due : Option Cadence) : (s.recandidate due).tu = s.tu := rfl
@[simp] theorem State.recandidate_st (s : State) (due : Option Cadence) : (s.recandidate due).st = s.st := rfl
@[simp] theorem State.recandidate_sc (s : State) (due : Option Cadence) : (s.recandidate due).sc = s.sc := rfl
@[simp] theorem State.recandidate_cm (s : State) (due : Option Cadence) : (s.recandidate due).cm = s.cm := rfl
@[simp] theorem State.recandidate_su (s : State) (due : Option Cadence) : (s.recandidate due).su = s.su := rfl
@[simp] theorem State.recandidate_mu (s : State) (due : Option Cadence) : (s.recandidate due).mu = s.mu := rfl
@[simp] theorem State.recandidate_lines (s : State) (due : Option Cadence) : (s.recandidate due).lines = s.lines := rfl
@[simp] theorem State.recandidate_model (s : State) (due : Option Cadence) : (s.recandidate due).model = s.model := rfl
@[simp] theorem State.recandidate_pending (s : State) (due : Option Cadence) : (s.recandidate due).pending = s.pending := rfl

@[simp] theorem State.countFeed_ds (s : State) (f : Feed) (g : IntakeCounters → IntakeCounters) : (s.countFeed f g).ds = s.ds := rfl
@[simp] theorem State.countFeed_re (s : State) (f : Feed) (g : IntakeCounters → IntakeCounters) : (s.countFeed f g).re = s.re := rfl
@[simp] theorem State.countFeed_dt (s : State) (f : Feed) (g : IntakeCounters → IntakeCounters) : (s.countFeed f g).dt = s.dt := rfl
@[simp] theorem State.countFeed_tu (s : State) (f : Feed) (g : IntakeCounters → IntakeCounters) : (s.countFeed f g).tu = s.tu := rfl
@[simp] theorem State.countFeed_st (s : State) (f : Feed) (g : IntakeCounters → IntakeCounters) : (s.countFeed f g).st = s.st := rfl
@[simp] theorem State.countFeed_sc (s : State) (f : Feed) (g : IntakeCounters → IntakeCounters) : (s.countFeed f g).sc = s.sc := rfl
@[simp] theorem State.countFeed_cm (s : State) (f : Feed) (g : IntakeCounters → IntakeCounters) : (s.countFeed f g).cm = s.cm := rfl
@[simp] theorem State.countFeed_su (s : State) (f : Feed) (g : IntakeCounters → IntakeCounters) : (s.countFeed f g).su = s.su := rfl
@[simp] theorem State.countFeed_mu (s : State) (f : Feed) (g : IntakeCounters → IntakeCounters) : (s.countFeed f g).mu = s.mu := rfl
@[simp] theorem State.countFeed_lines (s : State) (f : Feed) (g : IntakeCounters → IntakeCounters) : (s.countFeed f g).lines = s.lines := rfl
@[simp] theorem State.countFeed_model (s : State) (f : Feed) (g : IntakeCounters → IntakeCounters) : (s.countFeed f g).model = s.model := rfl
@[simp] theorem State.countFeed_pending (s : State) (f : Feed) (g : IntakeCounters → IntakeCounters) : (s.countFeed f g).pending = s.pending := rfl

end Sys2Proof.Machine
end

