-- ==== Sys2Proof/Laws/Ops.lean ====
section
/-! SUPPORT. What the containers and shared list operations do: one lemma per operation, cited in place of its unfolding. -/

namespace Sys2Proof

@[simp] theorem Feed.other_other (f : Feed) : f.other.other = f := by cases f <;> rfl

@[simp] theorem Feed.other_ne (f : Feed) : f.other ≠ f := by cases f <;> decide

@[simp] theorem Feed.ne_other (f : Feed) : f ≠ f.other := by cases f <;> decide

@[simp] theorem PerFeed.get_set {α : Type} (p : PerFeed α) (f : Feed) (x : α) : (p.set f x).get f = x := by
  cases f <;> rfl

theorem PerFeed.get_set_of_ne {α : Type} (p : PerFeed α) {f g : Feed} (x : α) (h : g ≠ f) :
    (p.set f x).get g = p.get g := by
  cases f <;> cases g <;> first | rfl | exact absurd rfl h

@[simp] theorem PerFeed.get_set_other {α : Type} (p : PerFeed α) (f : Feed) (x : α) :
    (p.set f x).get f.other = p.get f.other := by cases f <;> rfl

@[simp] theorem PerFeed.set_set {α : Type} (p : PerFeed α) (f : Feed) (x y : α) : (p.set f x).set f y = p.set f y := by
  cases f <;> rfl

@[simp] theorem PerFeed.set_get {α : Type} (p : PerFeed α) (f : Feed) : p.set f (p.get f) = p := by cases f <;> rfl

@[simp] theorem PerPort.get_set {α : Type} (p : PerPort α) (q : Port) (x : α) : (p.set q x).get q = x := by
  cases q <;> rfl

theorem PerPort.get_set_of_ne {α : Type} (p : PerPort α) {q r : Port} (x : α) (h : r ≠ q) :
    (p.set q x).get r = p.get r := by
  cases q <;> cases r <;> first | rfl | exact absurd rfl h

@[simp] theorem PerPort.set_set {α : Type} (p : PerPort α) (q : Port) (x y : α) : (p.set q x).set q y = p.set q y := by
  cases q <;> rfl

namespace Machine

@[simp] theorem getAt_setAt {α : Type} {n : Nat} (v : Vector α n) (i : Fin n) (x : α) : getAt (setAt v i x) i = x := by
  simp [getAt, setAt]

theorem getAt_setAt_of_ne {α : Type} {n : Nat} (v : Vector α n) {i j : Fin n} (x : α) (h : j ≠ i) :
    getAt (setAt v i x) j = getAt v j := by
  have : ¬ i.val = j.val := fun e => h (Fin.ext e.symm)
  simp [getAt, setAt, this]

@[simp] theorem getAt_modifyAt {α : Type} {n : Nat} (v : Vector α n) (i : Fin n) (f : α → α) :
    getAt (modifyAt v i f) i = f (getAt v i) := getAt_setAt ..

theorem getAt_modifyAt_of_ne {α : Type} {n : Nat} (v : Vector α n) {i j : Fin n} (f : α → α) (h : j ≠ i) :
    getAt (modifyAt v i f) j = getAt v j := getAt_setAt_of_ne v _ h

@[simp] theorem setAt_setAt {α : Type} {n : Nat} (v : Vector α n) (i : Fin n) (x y : α) :
    setAt (setAt v i x) i y = setAt v i y := by
  ext j hj
  simp [setAt, Vector.getElem_set]

@[simp] theorem setAt_getAt {α : Type} {n : Nat} (v : Vector α n) (i : Fin n) : setAt v i (getAt v i) = v := by
  ext j hj
  simp [setAt, getAt]

@[simp] theorem modifyAt_modifyAt {α : Type} {n : Nat} (v : Vector α n) (i : Fin n) (f g : α → α) :
    modifyAt (modifyAt v i f) i g = modifyAt v i (fun x => g (f x)) := by simp [modifyAt]

@[simp] theorem State.channel_modifyChannel (s : State) (c : Fin 4) (f : Channel → Channel) :
    (s.modifyChannel c f).channel c = f (s.channel c) := getAt_modifyAt ..

theorem State.channel_modifyChannel_of_ne (s : State) {c d : Fin 4} (f : Channel → Channel) (h : d ≠ c) :
    (s.modifyChannel c f).channel d = s.channel d := getAt_modifyAt_of_ne _ _ h

@[simp] theorem State.framer_modifyFramer (s : State) (p : Port) (f : Framer → Framer) :
    (s.modifyFramer p f).framer p = f (s.framer p) := PerPort.get_set ..

theorem State.framer_modifyFramer_of_ne (s : State) {p q : Port} (f : Framer → Framer) (h : q ≠ p) :
    (s.modifyFramer p f).framer q = s.framer q := PerPort.get_set_of_ne _ _ h

@[simp] theorem State.framer_countIntake (s : State) (p : Port) (f : IntakeCounters → IntakeCounters) :
    (s.countIntake p f).framer p = { s.framer p with counters := f (s.framer p).counters } := PerPort.get_set ..

theorem State.framer_countIntake_of_ne (s : State) {p q : Port} (f : IntakeCounters → IntakeCounters) (h : q ≠ p) :
    (s.countIntake p f).framer q = s.framer q := PerPort.get_set_of_ne _ _ h

@[simp] theorem State.openGroups_modifyFramer (s : State) (p : Port) (f : Framer → Framer) :
    (s.modifyFramer p f).fi.openGroups = s.fi.openGroups := rfl

@[simp] theorem State.ring_setRing (s : State) (f : Feed) (r : Ring) : (s.setRing f r).ring f = r := PerFeed.get_set ..

@[simp] theorem State.ring_setRing_other (s : State) (f : Feed) (r : Ring) :
    (s.setRing f r).ring f.other = s.ring f.other := PerFeed.get_set_other ..

@[simp] theorem State.table_setTable (s : State) (f : Feed) (t : List GroupRecord) : (s.setTable f t).table f = t :=
  PerFeed.get_set ..

@[simp] theorem State.table_setTable_other (s : State) (f : Feed) (t : List GroupRecord) :
    (s.setTable f t).table f.other = s.table f.other := PerFeed.get_set_other ..

@[simp] theorem State.table_setRing (s : State) (f g : Feed) (r : Ring) : (s.setRing f r).table g = s.table g := rfl

@[simp] theorem State.ring_setTable (s : State) (f g : Feed) (t : List GroupRecord) : (s.setTable f t).ring g = s.ring g :=
  rfl

/-! ### Counters (10.3) -/

/-- A counter never passes its largest value. -/
theorem countBy_le (c n : Nat) : countBy c n ≤ counterMax := Nat.min_le_right ..

/-! ### Lists -/

/-- A change of the first element that meets `p` keeps the number of elements. -/
@[simp] theorem length_modifyFirst {α : Type} (p : α → Bool) (f : α → α) (xs : List α) :
    (modifyFirst p f xs).length = xs.length := by
  induction xs with
  | nil => rfl
  | cons x xs ih => unfold modifyFirst; split <;> simp [ih]

/-- A change that keeps what `g` reads keeps the list of readings. -/
theorem map_modifyFirst {α β : Type} (p : α → Bool) (f : α → α) (g : α → β) (h : ∀ x, p x = true → g (f x) = g x)
    (xs : List α) : (modifyFirst p f xs).map g = xs.map g := by
  induction xs with
  | nil => rfl
  | cons x xs ih =>
    unfold modifyFirst
    split
    · simp [h x ‹_›]
    · simp [ih]

/-- Two changes of the first element that meets `p`, the first of which keeps it so, are one. -/
theorem modifyFirst_modifyFirst {α : Type} (p : α → Bool) (f g : α → α) (h : ∀ x, p x = true → p (f x) = true)
    (xs : List α) : modifyFirst p g (modifyFirst p f xs) = modifyFirst p (fun x => g (f x)) xs := by
  induction xs with
  | nil => rfl
  | cons x xs ih =>
    by_cases hp : p x = true
    · simp [modifyFirst, hp, h x hp]
    · simp [modifyFirst, hp, ih]

/-- What is left after a removal was there before, in the same order. -/
theorem removeFirst_sublist {α : Type} (p : α → Bool) (xs : List α) : (removeFirst p xs).Sublist xs := by
  induction xs with
  | nil => exact List.Sublist.slnil
  | cons x xs ih =>
    unfold removeFirst
    split
    · exact List.sublist_cons_self ..
    · exact ih.cons_cons x

/-- A removal takes away at most one element. -/
theorem length_removeFirst_le {α : Type} (p : α → Bool) (xs : List α) : (removeFirst p xs).length ≤ xs.length :=
  (removeFirst_sublist p xs).length_le

/-! ### Addressed stores (7.1) -/

/-- A cell that `Memory.write` leaves at another address was there before. -/
theorem Memory.mem_write {α : Type} {m : Memory α} {a : Nat} {v : α} {c : Nat × α} (h : c ∈ Memory.write m a v) :
    c = (a, v) ∨ c ∈ m := by
  induction m with
  | nil => simpa [Memory.write] using h
  | cons d m ih =>
    unfold Memory.write at h
    split at h
    · simpa using h
    · split at h
      · simp at h ⊢
        rcases h with h | h
        · exact .inl h
        · exact .inr (.inr h)
      · simp at h ⊢
        rcases h with h | h
        · exact .inr (.inl h)
        · rcases ih h with h | h <;> simp [h]

/-- A write keeps the canonical form. -/
theorem Memory.write_wf {α : Type} (m : Memory α) (a : Nat) (v : α) (h : Memory.wf m) : Memory.wf (m.write a v) := by
  induction m with
  | nil => simp [Memory.write, Memory.wf]
  | cons d m ih =>
    simp only [Memory.wf, List.pairwise_cons] at h
    unfold Memory.write
    split
    · rename_i hlt
      simp only [Memory.wf, List.pairwise_cons, List.mem_cons]
      refine ⟨?_, h.1, h.2⟩
      rintro c (rfl | hc)
      · exact hlt
      · exact Nat.lt_trans hlt (h.1 c hc)
    · split
      · rename_i _ he
        subst he
        exact List.pairwise_cons.mpr ⟨h.1, h.2⟩
      · rename_i h1 h2
        refine List.pairwise_cons.mpr ⟨fun c hc => ?_, ih h.2⟩
        rcases Memory.mem_write hc with rfl | hc
        · simp only; omega
        · exact h.1 c hc

/-- A read after a write to the same address gives the value written. -/
theorem Memory.read_write {α : Type} (m : Memory α) (a : Nat) (v : α) : (m.write a v).read a = some v := by
  induction m with
  | nil => simp [Memory.write, Memory.read]
  | cons d m ih =>
    unfold Memory.write
    split
    · simp [Memory.read]
    · split
      · simp [Memory.read]
      · rename_i h1 h2
        have : ¬ d.1 = a := fun e => h2 e.symm
        simpa [Memory.read, this] using ih

/-- A write leaves every other address as it was. -/
theorem Memory.read_write_of_ne {α : Type} (m : Memory α) {a b : Nat} (v : α) (h : b ≠ a) :
    (m.write a v).read b = m.read b := by
  induction m with
  | nil => simp [Memory.write, Memory.read, h.symm]
  | cons d m ih =>
    unfold Memory.write
    split
    · simp [Memory.read, h.symm]
    · split
      · rename_i _ he
        subst he
        simp [Memory.read, h.symm]
      · by_cases hd : d.1 = b
        · simp [Memory.read, hd]
        · simpa [Memory.read, hd] using ih

end Machine
end Sys2Proof
end

