-- ==== Sys2Proof/Laws/Flags.lean ====
section
/-! SUPPORT. What raising a flag, offering a packet and replying can do (R170, R171, R190, R191). -/

namespace Sys2Proof.Machine

/-! ### A counter counted up several times (10.3) -/

@[simp] theorem countTimes_zero (c : Nat) : countTimes c 0 = c := rfl

/-- Counting up once and then `n` times is counting up `n + 1` times. -/
theorem countTimes_count (c n : Nat) : countTimes (count c) n = countTimes c (n + 1) := by
  unfold countTimes count countBy
  split <;> simp <;> omega

/-! ### The monitor queue -/

/-- An offered packet joins the tail of a queue that has room, or is dropped and counted by its kind (R191, R196). -/
theorem Management.offer_cases (m : Management) (p : MonitorPacket) :
    (m.restartPending = false ∧ m.queue.length < monitorMax ∧ m.offer p = { m with queue := m.queue ++ [p] })
    ∨ ((m.restartPending = true ∨ monitorMax ≤ m.queue.length) ∧
        m.offer p = { m with counters := ManagementCounters.countDrop m.counters p }) := by
  unfold Management.offer ManagementCounters.countDrop
  by_cases h : (m.restartPending || decide (monitorMax ≤ m.queue.length)) = true
  · right
    rw [if_pos h]
    simp only [Bool.or_eq_true, decide_eq_true_eq] at h
    exact ⟨h, by cases p.kind <;> rfl⟩
  · left
    rw [if_neg h]
    simp only [Bool.or_eq_true, decide_eq_true_eq, not_or, Bool.not_eq_true, Nat.not_le] at h
    exact ⟨h.1, h.2, rfl⟩

/-- An offer leaves a queue of at most 64 packets so (R191). -/
theorem Management.offer_bounded (m : Management) (p : MonitorPacket) (h : m.queue.length ≤ monitorMax) :
    (m.offer p).queue.length ≤ monitorMax := by
  rcases m.offer_cases p with ⟨_, h1, e⟩ | ⟨_, e⟩ <;> rw [e]
  · simpa using Nat.succ_le_of_lt h1
  · exact h

/-- An offer reaches nothing but the queue and the counters. -/
theorem Management.offer_frame (m : Management) (p : MonitorPacket) :
    m.offer p = { m with queue := (m.offer p).queue, counters := (m.offer p).counters } := by
  rcases m.offer_cases p with ⟨_, _, e⟩ | ⟨_, e⟩ <;> rw [e]

/-- Some packets offered in order leave a queue of at most 64 packets so. -/
theorem Management.offerAll_bounded (ps : List MonitorPacket) (m : Management) (h : m.queue.length ≤ monitorMax) :
    (ps.foldl Management.offer m).queue.length ≤ monitorMax := by
  induction ps generalizing m with
  | nil => exact h
  | cons p ps ih => exact ih _ (m.offer_bounded p h)

/-- A reply leaves a queue of at most 64 packets so (R190, R191). -/
theorem Management.reply_bounded (m : Management) (tag code : Byte) (status : Status) (data : List Byte)
    (h : m.queue.length ≤ monitorMax) : (m.reply tag code status data).queue.length ≤ monitorMax :=
  Management.offerAll_bounded _ _ h

/-- Some packets offered in order reach nothing but the queue and the counters. -/
theorem Management.offerAll_frame (ps : List MonitorPacket) (m : Management) :
    ps.foldl Management.offer m =
      { m with queue := (ps.foldl Management.offer m).queue, counters := (ps.foldl Management.offer m).counters } := by
  induction ps generalizing m with
  | nil => rfl
  | cons p ps ih =>
    rw [List.foldl_cons, ih, m.offer_frame p]

/-- A reply reaches nothing but the queue and the counters (R190). -/
theorem Management.reply_frame (m : Management) (tag code : Byte) (status : Status) (data : List Byte) :
    m.reply tag code status data =
      { m with
        queue := (m.reply tag code status data).queue, counters := (m.reply tag code status data).counters } := by
  unfold Management.reply
  exact Management.offerAll_frame _ _

/-! ### Raising -/

@[simp] theorem State.raise_su (s : State) (f : EventFlag) : (s.raise f).su = s.su.raise f := rfl

@[simp] theorem Supervision.raise_flags (u : Supervision) (f : EventFlag) : (u.raise f).flags = u.flags ||| f.bit := rfl

@[simp] theorem Supervision.raise_unmasked (u : Supervision) (f : EventFlag) : (u.raise f).unmasked = u.unmasked := rfl

@[simp] theorem Supervision.raise_alarm (u : Supervision) (f : EventFlag) :
    (u.raise f).alarm = alarmLevel (u.raise f).flags (u.raise f).unmasked := rfl

@[simp] theorem Supervision.raise_requested (u : Supervision) (f : EventFlag) : (u.raise f).requested = u.requested := rfl

@[simp] theorem Supervision.raise_effective (u : Supervision) (f : EventFlag) : (u.raise f).effective = u.effective := rfl

@[simp] theorem Supervision.raise_timing (u : Supervision) (f : EventFlag) : (u.raise f).timing = u.timing := rfl

@[simp] theorem Supervision.raise_noRate (u : Supervision) (f : EventFlag) : (u.raise f).noRate = u.noRate := rfl

@[simp] theorem Supervision.raise_mgmt (u : Supervision) (f : EventFlag) : (u.raise f).mgmt = u.mgmt := rfl

@[simp] theorem Supervision.raise_factors (u : Supervision) (f : EventFlag) : (u.raise f).factors = u.factors := rfl

/-- What raising a flag does (R170, R171, R181, R192). -/
theorem State.raise_flagRaised (s : State) (f : EventFlag) : s.FlagRaised (s.raise f) f := by
  have hn : s.su.noticeDue f = true ↔ s.su.Notifies f := by simp [Supervision.noticeDue, Supervision.Notifies]
  have hmu : (s.raise f).mu =
      if s.su.noticeDue f then s.mu.offer ⟨.notice, noticePacket s.mu.unitAddress f.number s.tu.time⟩ else s.mu := rfl
  refine ⟨?_, fun h => ?_, fun h hr hq => ?_, fun h hq => ?_⟩
  · unfold Supervision.Raised
    by_cases h : s.su.Notifies f <;> simp [Supervision.raise, countIf, hn, h]
  · rw [hmu, if_neg (by rwa [hn])]
  · rw [hmu, if_pos (hn.2 h)]
    simp only [Management.offer, hr, Bool.false_or]
    rw [if_neg (by simpa using hq)]
    rfl
  · rw [hmu, if_pos (hn.2 h)]
    simp only [Management.offer]
    rw [if_pos (by simpa using hq)]

/-- Raising a flag reaches Supervision and Management Unit only. -/
theorem State.raise_frame (s : State) (f : EventFlag) :
    s.raise f = { s with su := (s.raise f).su, mu := (s.raise f).mu } := rfl

/-- A notice leaves a queue of at most 64 packets so (R191). -/
theorem State.raise_bounded (s : State) (f : EventFlag) (h : s.QueueBounded) : (s.raise f).QueueBounded := by
  unfold State.QueueBounded State.raise
  dsimp only
  split
  · exact Management.offer_bounded _ _ h
  · exact h

@[simp] theorem EventFlag.bit_set (f : EventFlag) : f.bit.getLsbD f.number = true := by cases f <;> decide

/-- A trace that has taken its trigger is not triggered again (R181). -/
theorem Trace.trigger_trigger (t : Trace) (f : EventFlag) : (t.trigger f).trigger f = t.trigger f := by
  unfold Trace.trigger
  by_cases h : t.state = .waiting ∧ (t.config.bind (·.onFlag)) = some f <;> simp [h]

/-- Without a notice due, raising a flag reaches the Supervision Unit only (R171). -/
theorem State.raise_of_not_due (s : State) (f : EventFlag) (h : s.su.noticeDue f = false) :
    s.raise f = { s with su := s.su.raise f } := by
  simp [State.raise, h]

/-- A flag raised twice at one instant is a flag raised once: no second notice, no second trigger (R170, R171, R181). -/
theorem State.raise_raise (s : State) (f : EventFlag) : (s.raise f).raise f = s.raise f := by
  have due : (s.raise f).su.noticeDue f = false := by simp [Supervision.noticeDue]
  have again : ∀ u : Supervision, u.noticeDue f = false → u.flags ||| f.bit = u.flags →
      alarmLevel u.flags u.unmasked = u.alarm → u.trace.trigger f = u.trace → u.raise f = u := by
    intro u h1 h2 h3 h4
    unfold Supervision.raise
    rw [h2, h4, h3, h1]
    rfl
  rw [State.raise_of_not_due _ _ due,
    again _ due (by simp [BitVec.or_assoc]) rfl (Trace.trigger_trigger _ _)]

/-! ### The parts of a reply (R190, R191) -/

/-- Part `i` carries bytes 171 × i and on, at most 171 of them, and there are as many parts as the data need, at least one (R190). -/
theorem cutParts_spec (fuel : Nat) (d : List Byte) (h : d.length ≤ 171 * (fuel + 1)) :
    (cutParts fuel d).length = max 1 ((d.length + 170) / 171)
    ∧ ∀ i, i < max 1 ((d.length + 170) / 171) → (cutParts fuel d)[i]? = some ((d.drop (171 * i)).take 171) := by
  induction fuel generalizing d with
  | zero =>
    rw [show max 1 ((d.length + 170) / 171) = 1 by omega]
    refine ⟨rfl, fun i hi => ?_⟩
    obtain rfl : i = 0 := by omega
    rw [Nat.mul_zero, List.drop_zero, List.take_of_length_le (by omega)]
    rfl
  | succ n ih =>
    by_cases hd : d.length ≤ 171
    · rw [show max 1 ((d.length + 170) / 171) = 1 by omega]
      refine ⟨by simp [cutParts, hd], fun i hi => ?_⟩
      obtain rfl : i = 0 := by omega
      rw [Nat.mul_zero, List.drop_zero, List.take_of_length_le hd, cutParts, if_pos hd]
      rfl
    · have rest := ih (d.drop 171) (by simp; omega)
      have parts : max 1 ((d.length + 170) / 171) = max 1 (((d.drop 171).length + 170) / 171) + 1 := by simp; omega
      rw [parts]
      refine ⟨by simp [cutParts, hd]; simpa using rest.1, fun i hi => ?_⟩
      cases i with
      | zero => simp [cutParts, hd]
      | succ i =>
        simp only [cutParts, hd, if_false, List.getElem?_cons_succ, rest.2 i (by omega), List.drop_drop]
        congr 3
        omega

/-- The packet of each part bears its number, and the last-part mark where it is the last (R190). -/
theorem replyPackets_spec (unit : BitVec 12) (tag code : Byte) (status i : Nat) (ds : List (List Byte)) :
    (replyPackets unit tag code status i ds).length = ds.length
    ∧ ∀ (j : Nat) (d : List Byte), ds[j]? = some d → (replyPackets unit tag code status i ds)[j]? =
        some (⟨.reply, replyPacket unit tag code status (i + j) (decide (j + 1 = ds.length)) d⟩ : MonitorPacket) := by
  induction ds generalizing i with
  | nil => simp [replyPackets]
  | cons x xs ih =>
    refine ⟨by simp [replyPackets, (ih (i + 1)).1], fun j d hj => ?_⟩
    cases j with
    | zero =>
      simp at hj
      subst hj
      cases xs <;> simp [replyPackets]
    | succ j =>
      simp at hj
      simp [replyPackets, (ih (i + 1)).2 j d hj]
      congr 1
      omega

/-- Every packet of a reply is of the reply's kind. -/
theorem replyPackets_kind (unit : BitVec 12) (tag code : Byte) (status i : Nat) (ds : List (List Byte)) :
    ∀ x ∈ replyPackets unit tag code status i ds, x.kind = .reply := by
  induction ds generalizing i with
  | nil => simp [replyPackets]
  | cons y ys ih =>
    intro x h
    simp [replyPackets] at h
    rcases h with rfl | h
    · rfl
    · exact ih _ _ h

/-- Parts offered in order join the tail as far as there is room, and the later ones are dropped and counted (R191, R196). -/
theorem Management.offerAll_replies (parts : List MonitorPacket) (hk : ∀ x ∈ parts, x.kind = .reply) (m : Management) (room : Nat)
    (h : room = if m.restartPending = true then 0 else monitorMax - m.queue.length) :
    parts.foldl Management.offer m =
      { m with
        queue := m.queue ++ parts.take room
        counters := { m.counters with
                      replyPartsDropped := countTimes m.counters.replyPartsDropped (parts.length - room) } } := by
  induction parts generalizing m room with
  | nil => simp
  | cons x xs ih =>
    rw [List.foldl_cons]
    have ih := ih fun y hy => hk y (List.mem_cons_of_mem _ hy)
    have hx := hk x (List.mem_cons_self ..)
    rcases m.offer_cases x with ⟨h1, h2, e⟩ | ⟨h1, e⟩
    · obtain ⟨r, rfl⟩ : ∃ r, room = r + 1 := ⟨monitorMax - m.queue.length - 1, by simp [h1] at h; omega⟩
      rw [e, ih _ r (by simp [h1] at h ⊢; omega)]
      simp
    · have h0 : room = 0 := by
        rcases h1 with h1 | h1
        · simpa [h1] using h
        · split at h <;> omega
      subst h0
      rw [e, ih _ 0 (by simpa [ManagementCounters.countDrop, hx] using h)]
      simp [ManagementCounters.countDrop, hx, countTimes_count]

/-! ### The transmit gate (R161 to R164) -/

/-- A change of the effective state reaches the flags, the Stream Table's output counts and the monitor queue only. -/
theorem State.setEffective_frame (s : State) (e : Effective) :
    s.setEffective e = { s with su := (s.setEffective e).su, st := (s.setEffective e).st, mu := (s.setEffective e).mu } := by
  unfold State.setEffective
  split
  · rfl
  · unfold State.raise
    rfl

/-- Bringing the gate into line reaches no more than a change of the effective state. -/
theorem State.alignGate_frame (s : State) :
    s.alignGate = { s with su := s.alignGate.su, st := s.alignGate.st, mu := s.alignGate.mu } := by
  unfold State.alignGate
  split <;> split <;> first | rfl | exact State.setEffective_frame _ _

/-- Deriving the requested state afresh reaches no more than a change of the effective state. -/
theorem State.regate_frame (s : State) :
    s.regate = { s with su := s.regate.su, st := s.regate.st, mu := s.regate.mu } := by
  unfold State.regate
  exact State.alignGate_frame _

/-- The gate at a slot start reaches no more than a change of the effective state. -/
theorem State.gateAtSlot_frame (s : State) (anchor : Bool) :
    s.gateAtSlot anchor =
      { s with su := (s.gateAtSlot anchor).su, st := (s.gateAtSlot anchor).st, mu := (s.gateAtSlot anchor).mu } := by
  unfold State.gateAtSlot
  split
  · rfl
  · split <;> first | rfl | exact State.setEffective_frame _ _
  · exact State.setEffective_frame _ _
  · exact State.setEffective_frame _ _

@[simp] theorem State.setEffective_fi (s : State) (e : Effective) : (s.setEffective e).fi = s.fi := by rw [State.setEffective_frame]
@[simp] theorem State.setEffective_ds (s : State) (e : Effective) : (s.setEffective e).ds = s.ds := by rw [State.setEffective_frame]
@[simp] theorem State.setEffective_re (s : State) (e : Effective) : (s.setEffective e).re = s.re := by rw [State.setEffective_frame]
@[simp] theorem State.setEffective_dt (s : State) (e : Effective) : (s.setEffective e).dt = s.dt := by rw [State.setEffective_frame]
@[simp] theorem State.setEffective_tu (s : State) (e : Effective) : (s.setEffective e).tu = s.tu := by rw [State.setEffective_frame]
@[simp] theorem State.setEffective_sc (s : State) (e : Effective) : (s.setEffective e).sc = s.sc := by rw [State.setEffective_frame]
@[simp] theorem State.setEffective_cm (s : State) (e : Effective) : (s.setEffective e).cm = s.cm := by rw [State.setEffective_frame]
@[simp] theorem State.setEffective_lines (s : State) (e : Effective) : (s.setEffective e).lines = s.lines := by rw [State.setEffective_frame]
@[simp] theorem State.setEffective_model (s : State) (e : Effective) : (s.setEffective e).model = s.model := by rw [State.setEffective_frame]
@[simp] theorem State.setEffective_pending (s : State) (e : Effective) : (s.setEffective e).pending = s.pending := by rw [State.setEffective_frame]

@[simp] theorem State.alignGate_fi (s : State) : (s.alignGate).fi = s.fi := by rw [State.alignGate_frame]
@[simp] theorem State.alignGate_ds (s : State) : (s.alignGate).ds = s.ds := by rw [State.alignGate_frame]
@[simp] theorem State.alignGate_re (s : State) : (s.alignGate).re = s.re := by rw [State.alignGate_frame]
@[simp] theorem State.alignGate_dt (s : State) : (s.alignGate).dt = s.dt := by rw [State.alignGate_frame]
@[simp] theorem State.alignGate_tu (s : State) : (s.alignGate).tu = s.tu := by rw [State.alignGate_frame]
@[simp] theorem State.alignGate_sc (s : State) : (s.alignGate).sc = s.sc := by rw [State.alignGate_frame]
@[simp] theorem State.alignGate_cm (s : State) : (s.alignGate).cm = s.cm := by rw [State.alignGate_frame]
@[simp] theorem State.alignGate_lines (s : State) : (s.alignGate).lines = s.lines := by rw [State.alignGate_frame]
@[simp] theorem State.alignGate_model (s : State) : (s.alignGate).model = s.model := by rw [State.alignGate_frame]
@[simp] theorem State.alignGate_pending (s : State) : (s.alignGate).pending = s.pending := by rw [State.alignGate_frame]

@[simp] theorem State.regate_fi (s : State) : (s.regate).fi = s.fi := by rw [State.regate_frame]
@[simp] theorem State.regate_ds (s : State) : (s.regate).ds = s.ds := by rw [State.regate_frame]
@[simp] theorem State.regate_re (s : State) : (s.regate).re = s.re := by rw [State.regate_frame]
@[simp] theorem State.regate_dt (s : State) : (s.regate).dt = s.dt := by rw [State.regate_frame]
@[simp] theorem State.regate_tu (s : State) : (s.regate).tu = s.tu := by rw [State.regate_frame]
@[simp] theorem State.regate_sc (s : State) : (s.regate).sc = s.sc := by rw [State.regate_frame]
@[simp] theorem State.regate_cm (s : State) : (s.regate).cm = s.cm := by rw [State.regate_frame]
@[simp] theorem State.regate_lines (s : State) : (s.regate).lines = s.lines := by rw [State.regate_frame]
@[simp] theorem State.regate_model (s : State) : (s.regate).model = s.model := by rw [State.regate_frame]
@[simp] theorem State.regate_pending (s : State) : (s.regate).pending = s.pending := by rw [State.regate_frame]

@[simp] theorem State.gateAtSlot_fi (s : State) (b : Bool) : (s.gateAtSlot b).fi = s.fi := by rw [State.gateAtSlot_frame]
@[simp] theorem State.gateAtSlot_ds (s : State) (b : Bool) : (s.gateAtSlot b).ds = s.ds := by rw [State.gateAtSlot_frame]
@[simp] theorem State.gateAtSlot_re (s : State) (b : Bool) : (s.gateAtSlot b).re = s.re := by rw [State.gateAtSlot_frame]
@[simp] theorem State.gateAtSlot_dt (s : State) (b : Bool) : (s.gateAtSlot b).dt = s.dt := by rw [State.gateAtSlot_frame]
@[simp] theorem State.gateAtSlot_tu (s : State) (b : Bool) : (s.gateAtSlot b).tu = s.tu := by rw [State.gateAtSlot_frame]
@[simp] theorem State.gateAtSlot_sc (s : State) (b : Bool) : (s.gateAtSlot b).sc = s.sc := by rw [State.gateAtSlot_frame]
@[simp] theorem State.gateAtSlot_cm (s : State) (b : Bool) : (s.gateAtSlot b).cm = s.cm := by rw [State.gateAtSlot_frame]
@[simp] theorem State.gateAtSlot_lines (s : State) (b : Bool) : (s.gateAtSlot b).lines = s.lines := by rw [State.gateAtSlot_frame]
@[simp] theorem State.gateAtSlot_model (s : State) (b : Bool) : (s.gateAtSlot b).model = s.model := by rw [State.gateAtSlot_frame]
@[simp] theorem State.gateAtSlot_pending (s : State) (b : Bool) : (s.gateAtSlot b).pending = s.pending := by rw [State.gateAtSlot_frame]

end Sys2Proof.Machine
end

