-- ==== Sys2Proof/Laws/Management.lean ====
section
/-! SUPPORT. What becomes of a command that is heard, refused for want of authority, or unknown (R188 to R190, R196). -/

namespace Sys2Proof.Machine

/-- The events of a live part take effect; a part held in RESET ignores them (R197). -/
theorem State.whileLive_of_live (s : State) (f : State → State) (h : s.lines.resetHeld = false) : s.whileLive f = f s := by
  simp [State.whileLive, h]

@[simp] theorem State.allows_heard (s : State) (src source : Source) (c : AuthorityClass) :
    (s.heard src).mu.allows source c = s.mu.allows source c := by cases source <;> rfl

@[simp] theorem State.heard_restartPending (s : State) (src : Source) :
    (s.heard src).mu.restartPending = s.mu.restartPending := rfl

/-- A command that is heard is executed and answered by its owner (R188, R189). -/
theorem State.manage_of_hears (s : State) (h : Header) (c : Command) (cls : AuthorityClass)
    (hc : classOfCode (codeOf c) = some cls) (hh : s.Hears h.source cls) :
    s.manage h c = (s.heard h.source).execute h.tag c := by
  obtain ⟨_, h2, h3⟩ := hh
  have h4 : (s.countManagement fun k => k.accept h.source).mu.allows h.source cls = true := by
    exact (s.allows_heard h.source h.source cls).trans h3
  simp only [State.manage, State.accepted, h2, hc, Bool.false_eq_true, if_false, h4, if_true]
  rfl

/-- The execution of a command other than RESTART and CLIP_LOAD_END is the answer to its result (R190). -/
theorem State.execute_eq_answer (s : State) (tag : Byte) (c : Command) (h : c ≠ .restart) (he : ∀ n, c ≠ .clipLoadEnd n) :
    s.execute tag c = (s.run c).answer tag (codeOf c) := by
  cases c <;> first | rfl | exact absurd rfl h | exact absurd rfl (he _)

/-- CLIP_LOAD_END is the answer to its result and, where the load was open, the completion of one left draining with an empty
buffer (R137, R138). -/
theorem State.execute_clipLoadEnd (s : State) (tag : Byte) (n : Nat) :
    s.execute tag (.clipLoadEnd n) =
      if s.cm.load.state = .opened then ((s.doClipLoadEnd n).answer tag 0x41#8).loadDrained
      else (s.doClipLoadEnd n).answer tag 0x41#8 := rfl

/-- A load that does not drain with an empty buffer is left as it is (R138). -/
theorem State.loadDrained_of_ne (s : State) (h : s.cm.load.state ≠ .draining ∨ s.cm.load.buffer ≠ []) : s.loadDrained = s :=
  if_neg fun hc => h.elim (fun h => h hc.1) fun h => h hc.2

/-- A command row that is heard, other than those two, gives the reply to its owner's result. -/
theorem State.manage_eq (s : State) (h : Header) (c : Command) (cls : AuthorityClass)
    (hc : classOfCode (codeOf c) = some cls) (hr : c ≠ .restart) (he : ∀ n, c ≠ .clipLoadEnd n) (hh : s.Hears h.source cls) :
    (s.whileLive fun s => s.manage h c) = ((s.heard h.source).run c).answer h.tag (codeOf c) := by
  rw [State.whileLive_of_live _ _ hh.1, s.manage_of_hears h c cls hc hh, State.execute_eq_answer _ _ _ hr he]

end Sys2Proof.Machine
end

