-- ==== Sys2Proof/Laws/PerInstr.lean ====
section
/-! SUPPORT. The per-command law: the code of every management command stands in the catalogue (11.3), under a class. -/

namespace Sys2Proof.Laws

/-- A row that is a management command has a catalogue code; an event of the part has none. -/
def Catalogued.Statement (i : Instr) : Prop :=
  ∀ c, i.command? = some c → (classOfCode (codeOf c)).isSome = true

theorem Catalogued.powerOn (pins : BitVec 12) : Catalogued.Statement (.powerOn pins) := by
  intro c h; cases h

theorem Catalogued.signalAppears (p : Port) : Catalogued.Statement (.signalAppears p) := by
  intro c h; cases h

theorem Catalogued.signalDisappears (p : Port) : Catalogued.Statement (.signalDisappears p) := by
  intro c h; cases h

theorem Catalogued.lockAcquired (p : Port) : Catalogued.Statement (.lockAcquired p) := by
  intro c h; cases h

theorem Catalogued.syncError (p : Port) : Catalogued.Statement (.syncError p) := by
  intro c h; cases h

theorem Catalogued.bridgingTimerExpiry (p : Port) : Catalogued.Statement (.bridgingTimerExpiry p) := by
  intro c h; cases h

theorem Catalogued.absenceTimerExpiry (p : Port) : Catalogued.Statement (.absenceTimerExpiry p) := by
  intro c h; cases h

theorem Catalogued.packetTaken (p : Port) (sync : SyncByte) (packet : Packet) : Catalogued.Statement (.packetTaken p sync packet) := by
  intro c h; cases h

theorem Catalogued.groupStart : Catalogued.Statement (.groupStart) := by
  intro c h; cases h

theorem Catalogued.passedGroup (f : Feed) (n : Cadence) : Catalogued.Statement (.passedGroup f n) := by
  intro c h; cases h

theorem Catalogued.staleRecord (f : Feed) (n : Cadence) : Catalogued.Statement (.staleRecord f n) := by
  intro c h; cases h

theorem Catalogued.departureSlot : Catalogued.Statement (.departureSlot) := by
  intro c h; cases h

theorem Catalogued.forcedReturn (channel : Fin 4) : Catalogued.Statement (.forcedReturn channel) := by
  intro c h; cases h

theorem Catalogued.revertTimerExpiry : Catalogued.Statement (.revertTimerExpiry) := by
  intro c h; cases h

theorem Catalogued.refTimeMessage (sec : Seconds) : Catalogued.Statement (.refTimeMessage sec) := by
  intro c h; cases h

theorem Catalogued.ppsPulse : Catalogued.Statement (.ppsPulse) := by
  intro c h; cases h

theorem Catalogued.missingPulseTimerExpiry : Catalogued.Statement (.missingPulseTimerExpiry) := by
  intro c h; cases h

theorem Catalogued.ref10MHzLost : Catalogued.Statement (.ref10MHzLost) := by
  intro c h; cases h

theorem Catalogued.holdoverSecondEnd : Catalogued.Statement (.holdoverSecondEnd) := by
  intro c h; cases h

theorem Catalogued.scan : Catalogued.Statement (.scan) := by
  intro c h; cases h

theorem Catalogued.memorySlot : Catalogued.Statement (.memorySlot) := by
  intro c h; cases h

theorem Catalogued.prefetchReadComplete : Catalogued.Statement (.prefetchReadComplete) := by
  intro c h; cases h

theorem Catalogued.loadWriteComplete : Catalogued.Statement (.loadWriteComplete) := by
  intro c h; cases h

theorem Catalogued.monitorPacketSent : Catalogued.Statement (.monitorPacketSent) := by
  intro c h; cases h

theorem Catalogued.warmRestart : Catalogued.Statement (.warmRestart) := by
  intro c h; cases h

theorem Catalogued.modeSet (h : Header) (mode : Nat) : Catalogued.Statement (.modeSet h mode) := by
  intro c h; cases h; rfl

theorem Catalogued.feedPolicySet (h : Header) (p : FeedPolicyParams) : Catalogued.Statement (.feedPolicySet h p) := by
  intro c h; cases h; rfl

theorem Catalogued.rateSet (h : Header) (rate : Nat) (timing : TimingParam) : Catalogued.Statement (.rateSet h rate timing) := by
  intro c h; cases h; rfl

theorem Catalogued.offsetSet (h : Header) (offset : Int) (timing : TimingParam) : Catalogued.Statement (.offsetSet h offset timing) := by
  intro c h; cases h; rfl

theorem Catalogued.delaySet (h : Header) (ms : Nat) : Catalogued.Statement (.delaySet h ms) := by
  intro c h; cases h; rfl

theorem Catalogued.timeSet (h : Header) (sec : Seconds) : Catalogued.Statement (.timeSet h sec) := by
  intro c h; cases h; rfl

theorem Catalogued.holdoverSet (h : Header) (limit : Nat) : Catalogued.Statement (.holdoverSet h limit) := by
  intro c h; cases h; rfl

theorem Catalogued.streamWrite (h : Header) (p : StreamWriteParams) : Catalogued.Statement (.streamWrite h p) := by
  intro c h; cases h; rfl

theorem Catalogued.streamErase (h : Header) (pid : Nat) : Catalogued.Statement (.streamErase h pid) := by
  intro c h; cases h; rfl

theorem Catalogued.streamRead (h : Header) (choice : Nat) (pid : Nat) : Catalogued.Statement (.streamRead h choice pid) := by
  intro c h; cases h; rfl

theorem Catalogued.defaultActionSet (h : Header) (action : Nat) : Catalogued.Statement (.defaultActionSet h action) := by
  intro c h; cases h; rfl

theorem Catalogued.channelSet (h : Header) (p : ChannelSetParams) : Catalogued.Statement (.channelSet h p) := by
  intro c h; cases h; rfl

theorem Catalogued.channelDisable (h : Header) (channel : Nat) : Catalogued.Statement (.channelDisable h channel) := by
  intro c h; cases h; rfl

theorem Catalogued.channelRead (h : Header) (choice : Nat) (channel : Nat) : Catalogued.Statement (.channelRead h choice channel) := by
  intro c h; cases h; rfl

theorem Catalogued.cueMatchWrite (h : Header) (p : CueMatchParams) : Catalogued.Statement (.cueMatchWrite h p) := by
  intro c h; cases h; rfl

theorem Catalogued.cuePost (h : Header) (p : CuePostParams) : Catalogued.Statement (.cuePost h p) := by
  intro c h; cases h; rfl

theorem Catalogued.cueCancel (h : Header) (p : CueCancelParams) : Catalogued.Statement (.cueCancel h p) := by
  intro c h; cases h; rfl

theorem Catalogued.clipLoadBegin (h : Header) (p : LoadBeginParams) : Catalogued.Statement (.clipLoadBegin h p) := by
  intro c h; cases h; rfl

theorem Catalogued.clipLoadEnd (h : Header) (clip : Nat) : Catalogued.Statement (.clipLoadEnd h clip) := by
  intro c h; cases h; rfl

theorem Catalogued.clipLoadAbandon (h : Header) : Catalogued.Statement (.clipLoadAbandon h) := by
  intro c h; cases h; rfl

theorem Catalogued.clipDelete (h : Header) (clip : Nat) : Catalogued.Statement (.clipDelete h clip) := by
  intro c h; cases h; rfl

theorem Catalogued.clipDirectoryRead (h : Header) (choice : Nat) (clip : Nat) : Catalogued.Statement (.clipDirectoryRead h choice clip) := by
  intro c h; cases h; rfl

theorem Catalogued.gateRequest (h : Header) (value : Nat) : Catalogued.Statement (.gateRequest h value) := by
  intro c h; cases h; rfl

theorem Catalogued.diagActionWrite (h : Header) (condition : Nat) (action : Nat) : Catalogued.Statement (.diagActionWrite h condition action) := by
  intro c h; cases h; rfl

theorem Catalogued.scanSet (h : Header) (setting : Nat) : Catalogued.Statement (.scanSet h setting) := by
  intro c h; cases h; rfl

theorem Catalogued.eventReadClear (h : Header) (flags : Nat) : Catalogued.Statement (.eventReadClear h flags) := by
  intro c h; cases h; rfl

theorem Catalogued.eventMaskWrite (h : Header) (masks : List Nat) : Catalogued.Statement (.eventMaskWrite h masks) := by
  intro c h; cases h; rfl

theorem Catalogued.snapshotTake (h : Header) : Catalogued.Statement (.snapshotTake h) := by
  intro c h; cases h; rfl

theorem Catalogued.snapshotRead (h : Header) : Catalogued.Statement (.snapshotRead h) := by
  intro c h; cases h; rfl

theorem Catalogued.traceConfigure (h : Header) (p : TraceParams) : Catalogued.Statement (.traceConfigure h p) := by
  intro c h; cases h; rfl

theorem Catalogued.traceStart (h : Header) : Catalogued.Statement (.traceStart h) := by
  intro c h; cases h; rfl

theorem Catalogued.traceStop (h : Header) : Catalogued.Statement (.traceStop h) := by
  intro c h; cases h; rfl

theorem Catalogued.traceRead (h : Header) (first : Nat) (count : Nat) : Catalogued.Statement (.traceRead h first count) := by
  intro c h; cases h; rfl

theorem Catalogued.countersRead (h : Header) (selection : Nat) (clear : Nat) : Catalogued.Statement (.countersRead h selection clear) := by
  intro c h; cases h; rfl

theorem Catalogued.statusRead (h : Header) : Catalogued.Statement (.statusRead h) := by
  intro c h; cases h; rfl

theorem Catalogued.addressWrite (h : Header) (group0 : Nat) (group1 : Nat) : Catalogued.Statement (.addressWrite h group0 group1) := by
  intro c h; cases h; rfl

theorem Catalogued.authorityWrite (h : Header) (mask : Nat) : Catalogued.Statement (.authorityWrite h mask) := by
  intro c h; cases h; rfl

theorem Catalogued.restart (h : Header) : Catalogued.Statement (.restart h) := by
  intro c h; cases h; rfl

theorem Catalogued.unknownCommand (h : Header) (code : Byte) : Catalogued.Statement (.unknownCommand h code) := by
  intro c h; cases h

theorem Catalogued.ref10MHzRestored : Catalogued.Statement (.ref10MHzRestored) := by
  intro c h; cases h

theorem Catalogued.resetAsserted : Catalogued.Statement (.resetAsserted) := by
  intro c h; cases h

end Sys2Proof.Laws
end

