-- ==== Sys2Proof/Laws/Splice.lean ====
section
/-! SUPPORT. What a cue's miss, the arming test, disarming and the letting go of a clip can do (R110, R113, R114, R133). -/

namespace Sys2Proof.Machine

/-! ### Missed cues (R110, R115) -/

/-- Some cues missed at one packet are counted one by one, and CUE_MISSED is raised (R110). -/
theorem State.missCues_succ (s : State) (c : Fin 4) (n : Nat) :
    s.missCues c (n + 1) =
      (s.countChannel c fun k => { k with missed := countTimes k.missed (n + 1) }).raise .cueMissed := by
  induction n generalizing s with
  | zero => rfl
  | succ n ih =>
    have once : ((s.missCue c).countChannel c fun k => { k with missed := countTimes k.missed (n + 1) }) =
        (s.countChannel c fun k => { k with missed := countTimes k.missed (n + 2) }).raise .cueMissed := by
      have move : ∀ (x : State) g, (x.raise .cueMissed).modifyChannel c g = (x.modifyChannel c g).raise .cueMissed :=
        fun _ _ => rfl
      simp only [State.missCue, State.countChannel]
      rw [move]
      congr 1
      simp only [State.modifyChannel, modifyAt]
      congr 2
      simp [countTimes_count]
    exact (ih (s.missCue c)).trans (by rw [once, State.raise_raise])

/-- The test of an armed or listed cue is that of its splice time, or of its window base (R110, R115). -/
theorem ListedCue.missedAt_eq (q : ListedCue) (p : Pts) :
    q.missedAt p = (q.time.or q.windowBase).any fun b => ptsAfter p (b + 180000#33) := by
  unfold ListedCue.missedAt windowBaseOf windowPassed ptsAdd
  cases q.time.or q.windowBase <;> rfl

/-! ### The arming test (R113) -/

/-- The arming test arms the head of the list where the channel is in NETWORK and the head's clip is READY, and changes nothing
where it does not (R113). -/
theorem State.armingTest_cases (s : State) (c : Fin 4) :
    (s.armingTest c = s ∧ ((s.channel c).state = .network → ∀ q, (s.channel c).list.head? = some q → s.cm.findReady q.clip = none))
    ∨ ∃ q rest i, (s.channel c).state = .network ∧ (s.channel c).list = q :: rest ∧ s.cm.findReady q.clip = some i
        ∧ s.armingTest c = s.arm c q rest i := by
  by_cases hn : (s.channel c).state = .network
  · cases hl : (s.channel c).list with
    | nil => exact .inl ⟨by simp [State.armingTest, hn, hl], by simp⟩
    | cons q rest =>
      cases hf : s.cm.findReady q.clip with
      | none => exact .inl ⟨by simp [State.armingTest, hn, hl, hf], by simp [hf]⟩
      | some i => exact .inr ⟨q, rest, i, hn, rfl, hf, by simp [State.armingTest, hn, hl, hf]⟩
  · exact .inl ⟨if_neg hn, fun h => absurd h hn⟩

/-- A channel that arms a cue is ARMED with it, the rest of its list standing (R113). -/
theorem State.channel_arm (s : State) (c : Fin 4) (q : ListedCue) (rest : List ListedCue) (i : Fin 64) :
    (s.arm c q rest i).channel c = { s.channel c with list := rest, active := some q.armed, state := .armed } := by
  simp [State.arm, State.channel, State.modifyChannel]

/-- A disarmed channel is in NETWORK, or has armed the next cue (R114). -/
theorem State.disarm_state (s : State) (c : Fin 4) :
    ((s.disarm c true).channel c).state = .network ∨ ((s.disarm c true).channel c).state = .armed := by
  unfold State.disarm
  simp only [if_true]
  generalize hy : State.modifyChannel _ c _ = y
  have network : (y.channel c).state = .network := by rw [← hy]; simp
  rcases y.armingTest_cases c with ⟨e, _⟩ | ⟨q, rest, i, _, _, _, e⟩ <;> rw [e]
  · exact .inl network
  · right
    rw [State.channel_arm]

/-! ### A clip let go (R133, R142) -/

/-- Of a clip let go, the record stands, or is freed where it was DELETE_PENDING and its last use ended, or has one use less; every
other record stands (R133, R142). -/
theorem ClipController.letGo_record (m : ClipController) (id : Nat) (i : Fin 64) :
    (m.letGo id).record i = m.record i
    ∨ (m.find id = some i ∧ (m.record i).state = .deletePending ∧ (m.record i).use ≤ 1 ∧ (m.letGo id).record i = .freed)
    ∨ (m.find id = some i ∧ ((m.record i).state ≠ .deletePending ∨ ¬ (m.record i).use ≤ 1)
        ∧ (m.letGo id).record i = { m.record i with use := (m.record i).use - 1 }) := by
  unfold ClipController.letGo
  cases hf : m.find id with
  | none => exact .inl rfl
  | some j =>
    dsimp only
    split <;> rename_i hc <;> by_cases hij : i = j
    · subst hij
      exact .inr (.inl ⟨rfl, hc.1, hc.2, by simp [ClipController.giveBack, ClipController.record]⟩)
    · left
      simp [ClipController.giveBack, ClipController.record, getAt_setAt_of_ne _ _ hij]
    · subst hij
      exact .inr (.inr ⟨rfl, Decidable.not_and_iff_or_not.1 hc, by simp [ClipController.modifyRecord, ClipController.record]⟩)
    · left
      simp [ClipController.modifyRecord, ClipController.record, getAt_modifyAt_of_ne _ _ hij]

/-- A READY clip stays the READY clip of its id when a channel lets a clip go (R133). -/
theorem ClipController.findReady_letGo (m : ClipController) (id x : Nat) (i : Fin 64) (h : m.findReady x = some i) :
    (m.letGo id).findReady x = some i := by
  unfold ClipController.findReady at h ⊢
  obtain ⟨j, hj, hr⟩ := Option.bind_eq_some_iff.1 h
  split at hr
  case isFalse => cases hr
  rename_i ready
  cases hr
  have kept : ((m.letGo id).record i).state = .ready ∧ ((m.letGo id).record i).id = (m.record i).id := by
    rcases m.letGo_record id i with e | ⟨_, e, _⟩ | ⟨_, _, e⟩
    · rw [e]; exact ⟨ready, rfl⟩
    · rw [ready] at e; cases e
    · rw [e]; exact ⟨ready, rfl⟩
  have found : (m.letGo id).find x = some i := by
    unfold ClipController.find at hj ⊢
    rw [List.find?_eq_some_iff_append] at hj ⊢
    obtain ⟨hp, as, bs, hl, hn⟩ := hj
    refine ⟨?_, as, bs, hl, fun y hy => ?_⟩
    · simp [kept]
      simpa using (by simpa using hp : _ ∧ _).2
    · have := hn y hy
      rcases m.letGo_record id y with e | ⟨_, _, _, e⟩ | ⟨_, _, e⟩ <;> rw [e]
      · exact this
      · simp [ClipRecord.freed]
      · simpa using this
  simp [found, kept]

/-- No clip becomes READY by a channel's letting one go. -/
theorem ClipController.findReady_letGo_none (m : ClipController) (id x : Nat)
    (h : ∀ i, (m.record i).id = x → (m.record i).state ≠ .ready) : (m.letGo id).findReady x = none := by
  unfold ClipController.findReady
  cases hf : (m.letGo id).find x with
  | none => rfl
  | some i =>
    have named : ((m.letGo id).record i).state ≠ .free ∧ ((m.letGo id).record i).id = x := by
      simpa using List.find?_some hf
    rcases m.letGo_record id i with e | ⟨_, _, _, e⟩ | ⟨_, _, e⟩ <;> rw [e] at named
    · simp [e, h i named.2]
    · exact absurd rfl named.1
    · simp [e, h i named.2]

/-- The stop of a channel's prefetch leaves the directory as it is (R114). -/
theorem ClipController.stopPrefetches_directory (m : ClipController) (c : Fin 4) (ks : List (Fin 4)) :
    (ks.foldl (fun m k => m.stopPrefetch (componentIndex c k)) m).directory = m.directory := by
  induction ks generalizing m with
  | nil => rfl
  | cons k ks ih => exact (ih _).trans rfl

end Sys2Proof.Machine
end

