-- ==== Sys2Proof/Tests/Slice0.lean ====
section
/-! SUPPORT. Tests: ill-formed commands refused, values worked out in spec/ or by hand from its rules, one step on small states,
and for each statement with hypotheses a witness, a concrete state and operands that meet them all together. -/

namespace Sys2Proof.Tests

open Sys2Proof.Machine

set_option Elab.async false

/-! ### Small states and packets -/

/-- A header of port L, and one of the feeds. -/
def fromL : Header := ⟨.portL, 7#8⟩

def fromFeed : Header := ⟨.feed, 7#8⟩

/-- The state a command leaves; the state itself where it does not go on. -/
def after (i : Instr) (s : State) : State :=
  match exec i s with
  | .next t => t
  | .fault _ => s
  | .refused _ => s

/-- Some commands one after another. -/
def run (s : State) (is : List Instr) : State := is.foldl (fun s i => after i s) s

/-- A packet of some leading bytes, filled up with 0xFF. -/
def pad (bs : List Byte) : Packet := bs ++ List.replicate (188 - bs.length) 0xFF#8

/-- A packet of a PID with payload only, or with the payload-start flag. -/
def plain (pid cc : Nat) : Packet :=
  pad [0x47#8, BitVec.ofNat 8 (pid / 256), BitVec.ofNat 8 pid, BitVec.ofNat 8 (16 + cc)]

/-- A timestamp's five bytes (11.6). -/
def pts5 (x : Nat) : List Byte :=
  [BitVec.ofNat 8 (0x21 + x / 2 ^ 30 % 8 * 2), BitVec.ofNat 8 (x / 2 ^ 22), BitVec.ofNat 8 (x / 2 ^ 15 % 128 * 2 + 1),
   BitVec.ofNat 8 (x / 2 ^ 7), BitVec.ofNat 8 (x % 128 * 2 + 1)]

/-- A random-access packet of a PID that begins with a PTS. -/
def entryPoint (pid cc pts : Nat) : Packet :=
  pad ([0x47#8, BitVec.ofNat 8 (64 + pid / 256), BitVec.ofNat 8 pid, BitVec.ofNat 8 (48 + cc), 0x01#8, 0x40#8,
        0x00#8, 0x00#8, 0x01#8, 0xE0#8, 0x00#8, 0x00#8, 0x80#8, 0x80#8, 0x05#8] ++ pts5 pts)

/-- A cadence packet (R11, 11.6). -/
def cadence (n length : Nat) (stamp : SiteTime) : Packet :=
  pad ([0x47#8, 0x5F#8, 0xF5#8, 0x10#8] ++ withCrc
    (toBytes 2 n ++ toBytes 2 length ++ toBytes 4 stamp.sec.toNat ++ toBytes 4 stamp.tick))

/-- A framer in a link state. -/
def framerIn (link : Link) (signal : Bool) (timer : Option Timer) : Framer :=
  { Framer.atPowerOn signal with link, timer }

/-- The state with its three framers in a link state. -/
def linked (s : State) (link : Link) (signal : Bool) (timer : Option Timer) : State :=
  { s with fi := { s.fi with framers := ⟨framerIn link signal timer, framerIn link signal timer, framerIn link signal timer⟩ } }

/-- After reset with every port LOCKED. -/
def locked : State := linked State.reset .locked true none

/-- In MFN mode, every port LOCKED. -/
def mfn : State := { locked with re := { locked.re with mode := .mfn } }

/-- While RESET is held. -/
def held : State := { State.reset with lines := { State.reset.lines with resetHeld := true } }

/-! ### Ill-formed commands are refused -/

theorem test_wellFormed_packet_length : Instr.wellFormed (.packetTaken .a ⟨0, false⟩ (0x47#8 :: List.replicate 186 0#8)) = false := by
  decide +kernel

theorem test_wellFormed_packet_sync : Instr.wellFormed (.packetTaken .a ⟨0, false⟩ (List.replicate 188 0#8)) = false := by decide +kernel

theorem test_wellFormed_unknown_code : Instr.wellFormed (.unknownCommand fromL 0x10#8) = false := by decide +kernel

/-- One term for each width that a command's parameters are checked against. -/
theorem test_wellFormed_parameters :
    [Command.modeSet 256, .feedPolicySet ⟨256, 0, 1, 0, 0, 0⟩, .feedPolicySet ⟨0, 256, 1, 0, 0, 0⟩,
     .feedPolicySet ⟨0, 0, 4294967296, 0, 0, 0⟩, .feedPolicySet ⟨0, 0, 1, 4294967296, 0, 0⟩,
     .feedPolicySet ⟨0, 0, 1, 0, 4294967296, 0⟩, .feedPolicySet ⟨0, 0, 1, 0, 0, 4294967296⟩,
     .rateSet 4294967296 ⟨0, 0⟩, .rateSet 1 ⟨256, 0⟩, .offsetSet 2147483648 ⟨0, 0⟩, .offsetSet (-2147483649) ⟨0, 0⟩,
     .offsetSet 0 ⟨256, 0⟩, .delaySet 4294967296, .holdoverSet 4294967296, .streamWrite ⟨65536, 0, none, 0, 0, 0⟩,
     .streamWrite ⟨1, 256, none, 0, 0, 0⟩, .streamWrite ⟨1, 0, some 65536, 0, 0, 0⟩, .streamWrite ⟨1, 0, none, 256, 0, 0⟩,
     .streamWrite ⟨1, 0, none, 0, 256, 0⟩, .streamWrite ⟨1, 0, none, 0, 0, 256⟩, .streamErase 65536, .streamRead 256 0,
     .streamRead 0 65536, .defaultActionSet 256, .channelSet ⟨256, 0, 1, [2]⟩, .channelSet ⟨0, 256, 1, [2]⟩,
     .channelSet ⟨0, 0, 65536, [2]⟩, .channelSet ⟨0, 0, 1, [65536]⟩, .channelSet ⟨0, 0, 1, List.replicate 256 2⟩,
     .channelDisable 256, .channelRead 256 0, .channelRead 0 256].all (fun c => !c.wellFormed) = true := by decide +kernel

theorem test_wellFormed_parameters_more :
    [Command.cueMatchWrite ⟨256, 0, 0, 0, 1⟩, .cueMatchWrite ⟨0, 256, 0, 0, 1⟩, .cueMatchWrite ⟨0, 0, 256, 0, 1⟩,
     .cueMatchWrite ⟨0, 0, 0, 256, 1⟩, .cueMatchWrite ⟨0, 0, 0, 0, 65536⟩, .cuePost ⟨256, 0, 0, none, none, 0⟩,
     .cuePost ⟨0, 4294967296, 0, none, none, 0⟩, .cuePost ⟨0, 0, 256, none, none, 0⟩,
     .cuePost ⟨0, 0, 0, some 1099511627776, none, 0⟩, .cuePost ⟨0, 0, 0, none, some 4294967296, 0⟩,
     .cuePost ⟨0, 0, 0, none, none, 256⟩, .cueCancel ⟨256, 0, 0⟩, .cueCancel ⟨0, 256, 0⟩, .cueCancel ⟨0, 0, 4294967296⟩,
     .clipLoadBegin ⟨65536, 1, 0, 1, [1]⟩, .clipLoadBegin ⟨1, 4294967296, 0, 1, [1]⟩, .clipLoadBegin ⟨1, 1, 0, 4294967296, [1]⟩,
     .clipLoadBegin ⟨1, 1, 0, 1, [65536]⟩, .clipLoadBegin ⟨1, 1, 0, 1, List.replicate 256 1⟩, .clipLoadEnd 65536,
     .clipDelete 65536, .clipDirectoryRead 256 0, .clipDirectoryRead 0 65536, .gateRequest 256, .diagActionWrite 256 0,
     .diagActionWrite 0 256, .scanSet 65536, .eventReadClear 4294967296, .eventMaskWrite [0], .traceConfigure ⟨[256], 0, 0, 0, 0⟩,
     .traceConfigure ⟨[0], 256, 0, 0, 0⟩, .traceConfigure ⟨[0], 0, 256, 0, 0⟩, .traceConfigure ⟨[0], 0, 0, 256, 0⟩,
     .traceConfigure ⟨[0], 0, 0, 0, 256⟩, .traceRead 65536 0, .traceRead 0 65536, .countersRead 256 0, .countersRead 0 256,
     .addressWrite 65536 0, .addressWrite 0 65536, .authorityWrite 256].all (fun c => !c.wellFormed) = true := by decide +kernel

/-! ### Values worked out in spec/ or by hand from its rules -/

/-- The CRC-32 of the nine digits "123456789" (R186). -/
theorem test_crc_check_value :
    crc32 [0x31#8, 0x32#8, 0x33#8, 0x34#8, 0x35#8, 0x36#8, 0x37#8, 0x38#8, 0x39#8] = 0x0376E6E7#32 := by decide +kernel

/-! ### More small states for the witnesses -/

/-- The state `s` hears every command of port L where RESET is not held and no restart is pending. -/
theorem hears_portL (s : State) (c : AuthorityClass) (h1 : s.lines.resetHeld = false) (h2 : s.mu.restartPending = false) :
    s.Hears .portL c := ⟨h1, h2, by cases c <;> rfl⟩

/-- A record of sixteen positions whose release time is `T`. -/
def recordOf (n : Cadence) (T : SiteTime) : GroupRecord :=
  { number := n, length := 16, received := 1, release := T, firstSlot := some 0, arrival := ⟨0#32, 0⟩, state := .filling
    verdict := .onTime, missing := 0, nextPosition := 0 }

/-- A HELD slot. -/
def slotAt (i : Nat) (packet : Packet) (n : Cadence) (k : Nat) : Slot :=
  { index := i, state := .held, packet, arrival := ⟨0#32, 0⟩, group := some n, position := some k }

/-- Group 10 stands open in both feeds, its cadence packet stored, and is the candidate for 5 s 0. -/
def grouped : State :=
  { locked with
    fi := { locked.fi with openGroups := ⟨some ⟨10#16, 1⟩, some ⟨10#16, 1⟩⟩ }
    ds := { locked.ds with
            rings := ⟨⟨[slotAt 0 (cadence 10 16 ⟨5#32, 0⟩) 10#16 0], 1⟩, ⟨[slotAt 0 (cadence 10 16 ⟨5#32, 0⟩) 10#16 0], 1⟩⟩
            tables := ⟨[recordOf 10#16 ⟨5#32, 0⟩], [recordOf 10#16 ⟨5#32, 0⟩]⟩ }
    re := { locked.re with candidate := some 10#16, lastStarted := some 7#16 }
    dt := { locked.dt with rate := some 20000000 }
    tu := { locked.tu with time := ⟨4#32, 26999999⟩ } }

/-- The same at its release time. -/
def groupDue : State := { grouped with tu := { grouped.tu with time := ⟨5#32, 0⟩ } }

/-- The same with group 7 still in release from feed B. -/
def groupDueBusy : State :=
  { groupDue with
    ds := { groupDue.ds with
            tables := { groupDue.ds.tables with
                        b := [{ recordOf 7#16 ⟨4#32, 0⟩ with state := .releasing, nextPosition := 1 },
                              recordOf 10#16 ⟨5#32, 0⟩] } }
    re := { groupDue.re with releasing := some ⟨.b, 7#16⟩ } }

/-- Group 10 in release from feed A, its next slot due; `k` is its next position. -/
def releasingAt (k : Nat) (rings : PerFeed Ring) : State :=
  { groupDue with
    ds := { groupDue.ds with
            rings
            tables := ⟨[{ recordOf 10#16 ⟨5#32, 0⟩ with state := .releasing, nextPosition := k }], [recordOf 10#16 ⟨5#32, 0⟩]⟩ }
    re := { groupDue.re with candidate := none, releasing := some ⟨.a, 10#16⟩, lastStarted := some 10#16 }
    dt := { groupDue.dt with nextSlot := some ⟨5#32, 0⟩, pacer := some (pacerFor 20000000) } }

/-- A ring that holds one packet as position `k` of group 10, and an empty one. -/
def ringWith (packet : Packet) (k : Nat) : Ring := ⟨[slotAt 0 packet 10#16 k], 1⟩

/-- A ring without a slot. -/
def ringNone : Ring := ⟨[], 1⟩

/-- In MFN mode with the first slot due, the ring of feed A holding one packet that arrived at 0 s 0. -/
def mfnSlotDue (now : SiteTime) (packet : Packet) : State :=
  { mfn with
    ds := { mfn.ds with
            rings := ⟨⟨[⟨0, .held, packet, ⟨0#32, 0⟩, none, none⟩], 1⟩, ⟨[⟨0, .held, packet, ⟨0#32, 0⟩, none, none⟩], 1⟩⟩ }
    dt := { mfn.dt with rate := some 20000000, pacer := some (pacerFor 20000000), nextSlot := some now }
    tu := { mfn.tu with time := now } }

/-- The Timing Unit in a reference state, 27,000,000 local ticks after a pulse that carried 8, the next value being 9. -/
def reference (ref : RefState) (time : SiteTime) (localTicks : Nat) : State :=
  { State.reset with
    tu := { State.reset.tu with
            ref, time, localTicks, run := 3, lastPulse := some ⟨0, some 8#32⟩, lastTimeValue := some 9#32, missingTimer := true
            freq10 := true } }

/-- A pulse at those ticks is good where they lie within 27,000,000 ± 2,700 (R72). -/
theorem pulseGood_reference (ref : RefState) (time : SiteTime) (n : Nat) (h1 : 26997300 ≤ n) (h2 : n ≤ 27002700) :
    (reference ref time n).tu.PulseGood :=
  ⟨⟨0, some 8#32⟩, 8#32, rfl, rfl, rfl, h1, h2, rfl⟩

/-- Beyond, it is not. -/
theorem not_pulseGood_reference (ref : RefState) (time : SiteTime) (n : Nat) (h : n < 26997300 ∨ 27002700 < n) :
    ¬ (reference ref time n).tu.PulseGood := by
  rintro ⟨p, w, hp, -, -, h1, h2, -⟩
  cases hp
  have h1' : 26997300 ≤ n := h1
  have h2' : n ≤ 27002700 := h2
  omega

/-- A clip directory record with one page. -/
def clipRecord (state : ClipState) (id use page : Nat) : ClipRecord :=
  { state, id, use, pages := [page], count := 2, declared := 2, components := 2
    firstPts := #v[some 126000#33, none, none, none], duration := 2700000, crc := 0#32 }

/-- A load of clip 41 in record 0, in a load state, with some packets accepted and some still to be written. -/
def loading (state : LoadState) (count : Nat) (buffer : List BufferedPacket) : State :=
  { locked with
    cm := { locked.cm with
            freeList := (List.range clipPages).drop 1
            directory := setAt locked.cm.directory 0 { clipRecord .loading 41 0 0 with count, crc := 0xFFFFFFFF#32 }
            load := { state, record := 0, map := [1000, 1001], crc := 0xFFFFFFFF#32, excess := false, buffer } } }

/-- Channel 0 in a state, its active splice of event 11 and clip 41 (READY, or DELETE_PENDING, with use count 1). -/
def spliced (state : ChannelState) (clip : ClipState) : State :=
  { locked with
    sc := { locked.sc with
            cueMatches := setAt locked.sc.cueMatches 0 ⟨true, 3, 0b0001#4, some 41⟩
            channels := setAt locked.sc.channels 0
              { Channel.atPowerOn with
                enabled := true, cuePid := some 50, pids := [200, 201], state
                active := if state.holdsClip then
                            some { event := 11, clip := 41, time := some 1900000#33, duration := none, windowBase := none
                                   returnOverride := none
                                   out := if state = .armed then none
                                          else some { pts := 1900000#33, offset := 1774000#33, returnTime := 4600000#33
                                                      siteTime := ⟨5#32, 0⟩, forcedAt := ⟨37#32, 0⟩, forced := false } }
                          else none
                subst := if state.holdsClip && state != .armed then
                           #v[.substituting, .waiting, .returned, .returned]
                         else Vector.replicate 4 .returned } }
    cm := { locked.cm with
            freeList := (List.range clipPages).drop 1
            directory := setAt locked.cm.directory 0 (clipRecord clip 41 (if state.holdsClip then 1 else 0) 0) } }

/-- A cue of event 12 for clip 41, at 2,800,000. -/
def listed : ListedCue :=
  { event := 12, time := some 2800000#33, duration := none, avail := 3, clip := 41, windowBase := none, returnOverride := none }

/-- The state with a cue list in channel 0. -/
def withList (s : State) (qs : List ListedCue) : State :=
  { s with sc := { s.sc with channels := setAt s.sc.channels 0 { s.channel 0 with list := qs } } }

/-- A Stream Table entry for PID 100, leaving with PID 300. -/
def entry100 (action : Action) (carrier : Bool) : StreamEntry :=
  { inPid := 100, action, outPid := some 300, managed := true, carrier, check := true, lastIn := some 2#4, lastOut := some 5#4
    released := 0, dropped := 0, errors := 0 }

/-- The state with the last released primary PTS of channel 0. -/
def primed (s : State) (x : Pts) : State :=
  { s with sc := { s.sc with channels := setAt s.sc.channels 0 { s.channel 0 with lastPts := some x } } }

/-- The state with some Stream Table entries. -/
def withEntries (s : State) (es : List StreamEntry) : State := { s with st := { s.st with entries := es } }

/-! ### Witnesses: states and operands that meet a statement's hypotheses together, clause by clause

Where a hypothesis gives a name to a value, that value is taken. -/

theorem witness_IdleBlock :
    (held.pending = [] ∧ held.lines.resetHeld = true)
    ∧ (groupDue.pending = [] ∧ groupDue.lines.resetHeld = false ∧ groupDue.dueEvents ≠ [])
    ∧ (locked.pending = [] ∧ locked.lines.resetHeld = false ∧ locked.dueEvents = [] ∧ locked.tu.ref.inHoldover = false
        ∧ locked.tu.ref ≠ .locked) := by decide +kernel

theorem witness_ResetSilencesTheBlock :
    held.lines.resetHeld = true ∧ (∀ pins, Instr.scan ≠ .powerOn pins) ∧ Instr.scan ≠ .resetAsserted
    ∧ (∀ p, Instr.scan ≠ .signalAppears p) ∧ (∀ p, Instr.scan ≠ .signalDisappears p) ∧ Instr.scan ≠ .ref10MHzLost
    ∧ Instr.scan ≠ .ref10MHzRestored := ⟨rfl, nofun, nofun, nofun, nofun, nofun, nofun⟩

/-- A restart pending with port M's queue empty, a load open, two clips and a channel on air, in MFN mode with a rate. -/
def restarting : State :=
  { spliced .out .deletePending with
    mu := { locked.mu with restartPending := true }
    re := { locked.re with mode := .mfn }
    dt := { locked.dt with rate := some 20000000 }
    su := { locked.su with noRate := false, timing := false }
    cm := { locked.cm with
            directory := setAt (setAt (setAt locked.cm.directory 0 (clipRecord .deletePending 41 1 0)) 1 (clipRecord .ready 42 0 1))
              2 (clipRecord .loading 43 0 2)
            load := { LoadContext.closed with state := .opened, record := 2 } } }

theorem witness_WarmRestartState :
    (locked.lines.resetHeld = false ∧ locked.mu.restartPending = false)
    ∧ (restarting.lines.resetHeld = false ∧ restarting.mu.restartPending = true ∧ restarting.mu.queue = []
        ∧ restarting.re.mode = .mfn ∧ restarting.dt.rate = some 20000000 ∧ (restarting.channel 1).state = .disabled
        ∧ (restarting.channel 0).state ≠ .disabled ∧ (restarting.cm.record 1).state = .ready
        ∧ (1 : Fin 64) ≠ restarting.cm.load.record ∧ (restarting.cm.record 0).state = .deletePending
        ∧ restarting.cm.load.state ≠ .closed ∧ restarting.su.mgmt = .run) := by decide +kernel

theorem witness_SignalLevel :
    (locked.lines.resetHeld = false ∧ (locked.framer .a).signal = true)
    ∧ (State.reset.lines.resetHeld = false ∧ (State.reset.framer .a).signal = false ∧ (State.reset.framer .a).link = .absent)
    ∧ (∀ l ∈ [Link.searching, .lost], ((linked State.reset l false none).framer .b).signal = false
        ∧ ((linked State.reset l false none).framer .b).link = l)
    ∧ (∀ l ∈ [Link.locked, .bridging], ((linked State.reset l false none).framer .l).signal = false
        ∧ ((linked State.reset l false none).framer .l).link = l)
    ∧ ((locked.framer .l).signal = true ∧ (locked.framer .l).link = .locked ∧ (loading .opened 0 []).cm.load.state = .opened
        ∧ ((loading .opened 0 []).framer .l).link = .locked ∧ ((loading .opened 0 []).framer .l).signal = true)
    ∧ (∀ l ∈ [Link.searching, .lost, .bridging, .absent], ((linked State.reset l true none).framer .a).signal = true
        ∧ ((linked State.reset l true none).framer .a).link = l) := by decide +kernel

theorem witness_LockAndSyncError :
    (∀ l ∈ [Link.searching, .lost, .bridging, .locked, .absent], (linked State.reset l true none).lines.resetHeld = false
        ∧ ((linked State.reset l true none).framer .a).link = l)
    ∧ (locked.lines.resetHeld = false ∧ (locked.framer .b).link = .locked ∧ (locked.framer .b).badSync < 2)
    ∧ (∀ s ∈ [locked.modifyFramer .l fun x => { x with badSync := 2 },
              (loading .opened 0 []).modifyFramer .l fun x => { x with badSync := 2 }],
        s.lines.resetHeld = false ∧ (s.framer .l).link = .locked ∧ 2 ≤ (s.framer .l).badSync)
    ∧ (loading .opened 0 []).cm.load.state = .opened := by decide +kernel

/-- A timer of 10 ticks, started at the last tick of a second. -/
def tenTicks : Timer := ⟨⟨4294967295#32, 26999999⟩, 10⟩

theorem witness_FramerTimersExpire :
    (∀ l ∈ [Link.bridging, .searching, .lost],
      let s := linked State.reset l false (some tenTicks)
      s.lines.resetHeld = false ∧ (s.framer .a).link = l ∧ (s.framer .a).signal = false ∧ (s.framer .a).timer = some tenTicks)
    ∧ (tenTicks.interval : Int) ≤ siteDiff ⟨0#32, 9⟩ tenTicks.start ∧ siteDiff ⟨0#32, 8⟩ tenTicks.start < tenTicks.interval := by
  decide +kernel

/-- The ring of feed A full at the write index. -/
def ringFull (s : State) : State := s.setRing .a ⟨[slotAt 0 nullPacket 10#16 0], 0⟩

theorem witness_MfnPacketStored :
    (mfn.lines.resetHeld = false ∧ (mfn.framer .a).link = .locked ∧ mfn.re.mode = .mfn
      ∧ (∀ x ∈ (mfn.ring .a).slots, x.index ≠ (mfn.ring .a).writeIndex))
    ∧ ((ringFull mfn).lines.resetHeld = false ∧ ((ringFull mfn).framer .a).link = .locked ∧ (ringFull mfn).re.mode = .mfn
      ∧ ∃ x ∈ ((ringFull mfn).ring .a).slots, x.index = ((ringFull mfn).ring .a).writeIndex) := by decide +kernel

theorem witness_GroupFilling :
    (locked.lines.resetHeld = false ∧ (locked.framer .b).link = .locked ∧ locked.re.mode = .sfn ∧ pidOf (plain 100 0) ≠ 8181
      ∧ locked.fi.openGroups.get .b = none)
    ∧ (grouped.lines.resetHeld = false ∧ (grouped.framer .a).link = .locked ∧ grouped.re.mode = .sfn
      ∧ grouped.fi.openGroups.get .a = some ⟨10#16, 1⟩ ∧ grouped.record? .a 10#16 = some (recordOf 10#16 ⟨5#32, 0⟩)
      ∧ grouped.positionPassed 10#16 1 = false
      ∧ (∀ x ∈ (grouped.ring .a).slots, x.index ≠ (grouped.ring .a).writeIndex)) := by decide +kernel

/-- Group 10 in release, its next position 2, feed B's open group standing at position 1. -/
def passedPosition : State :=
  { releasingAt 2 ⟨ringNone, ringNone⟩ with fi := grouped.fi }

/-- Group 10 open in feed A with the ring full. -/
def groupedFull : State := ringFull grouped

/-- A state with both feeds' open groups standing at position `k`. -/
def openAt (k : Nat) (s : State) : State :=
  { s with fi := { s.fi with openGroups := ⟨some ⟨10#16, k⟩, some ⟨10#16, k⟩⟩ } }

/-- Position 1, and position 15, the last of sixteen, which counts as passed once the release stands beyond it. -/
theorem witness_PositionsLost :
    (∀ s ∈ [passedPosition, openAt 15 (releasingAt 16 ⟨ringNone, ringNone⟩)], s.lines.resetHeld = false
      ∧ (s.framer .b).link = .locked ∧ s.re.mode = .sfn ∧ pidOf (plain 100 0) ≠ 8181
      ∧ ∃ g, s.fi.openGroups.get .b = some g ∧ s.record? .b g.number = some (recordOf 10#16 ⟨5#32, 0⟩)
        ∧ s.positionPassed g.number g.next = true)
    ∧ (∀ k ∈ [1, 15], let s := openAt k groupedFull
      s.lines.resetHeld = false ∧ (s.framer .a).link = .locked ∧ s.re.mode = .sfn ∧ s.fi.openGroups.get .a = some ⟨10#16, k⟩
      ∧ s.record? .a 10#16 = some (recordOf 10#16 ⟨5#32, 0⟩) ∧ s.positionPassed 10#16 k = false
      ∧ ∃ x ∈ (s.ring .a).slots, x.index = (s.ring .a).writeIndex)
    ∧ (1 + 1 < (recordOf 10#16 ⟨5#32, 0⟩).length ∧ (recordOf 10#16 ⟨5#32, 0⟩).length ≤ 15 + 1) := by
  refine ⟨?_, by decide +kernel, by decide⟩
  intro s hs
  simp only [List.mem_cons, List.not_mem_nil, or_false] at hs
  rcases hs with rfl | rfl
  · exact ⟨rfl, rfl, rfl, by decide +kernel, ⟨10#16, 1⟩, rfl, rfl, by decide +kernel⟩
  · exact ⟨rfl, rfl, rfl, by decide +kernel, ⟨10#16, 15⟩, rfl, rfl, by decide +kernel⟩

/-- Feed A's table full, none of its records of number 10. -/
def groupTableFull : State :=
  { locked with
    ds := { locked.ds with
            tables := { locked.ds.tables with
                        a := (List.range 64).map fun i => recordOf (BitVec.ofNat 16 (1000 + i)) ⟨5#32, 0⟩ } } }

/-- Group 10 in release from feed A, its next slot at 5 s 0, when group 11 of feed B appears as the candidate for `T`. -/
def appearing (T : SiteTime) (effective : Effective) : State :=
  let s := releasingAt 14 ⟨ringWith nullPacket 14, ringWith nullPacket 15⟩
  { s with
    ds := { s.ds with tables := { s.ds.tables with b := s.ds.tables.b ++ [recordOf 11#16 T] } }
    re := { s.re with candidate := some 11#16 }
    su := { s.su with effective } }

/-- The tick before the next slot, and that slot's own start. -/
theorem witness_CadenceOpensGroup_appearing :
    (∀ e ∈ [Effective.running, .holding, .stopped, .starting], ∀ sec tick, (sec = 4 ∧ tick = 26999999) ∨ (sec = 5 ∧ tick = 0) →
      (appearing ⟨sec, tick⟩ e).re.releasing = some ⟨.a, 10#16⟩ ∧ (appearing ⟨sec, tick⟩ e).dt.nextSlot = some ⟨5#32, 0⟩
      ∧ (appearing ⟨sec, tick⟩ e).su.effective = e)
    ∧ (∀ T ∈ [(⟨4#32, 26999999⟩ : SiteTime), ⟨5#32, 0⟩], (appearing T .running).candidateTime = some T
      ∧ ((appearing T .running).record? .a 10#16).map (·.nextPosition) = some 14)
    ∧ isBefore ⟨4#32, 26999999⟩ ⟨5#32, 0⟩ = true ∧ isBefore ⟨5#32, 0⟩ ⟨5#32, 0⟩ = false
    ∧ ((appearing ⟨4#32, 26999999⟩ .running).overlapByAppearing none).re.counters.overlapPositions = 2 :=
  ⟨fun _ _ _ _ _ => ⟨rfl, rfl, rfl⟩, by decide +kernel, by decide +kernel, by decide +kernel, by decide +kernel⟩

/-- With no open group, with the group itself open, in release, with a full table and with a full ring. The verdict is ON_TIME at 0
and at 27,000,000 ticks, LATE and EARLY one tick outside. -/
theorem witness_CadenceOpensGroup :
    (pidOf (cadence 10 16 ⟨5#32, 0⟩) = 8181 ∧ cadenceOf (cadence 10 16 ⟨5#32, 0⟩) = some ⟨10#16, 16, ⟨5#32, 0⟩⟩)
    ∧ (∀ s ∈ [locked, grouped, passedPosition, groupTableFull, groupedFull],
        s.lines.resetHeld = false ∧ (s.framer .a).link = .locked ∧ s.re.mode = .sfn)
    ∧ (∀ s ∈ [locked, grouped, groupTableFull, groupedFull], (s.record? .a 10#16).all (fun y => y.state != .releasing) = true
        ∧ s.positionPassed 10#16 0 = false ∧ ((s.table .a).map (·.number)).Nodup ∧ ((s.table .b).map (·.number)).Nodup)
    ∧ (passedPosition.record? .a 10#16).map (·.state) = some .releasing
    ∧ (groupDueBusy.positionPassed 7#16 0 = true ∧ groupDueBusy.re.releasing = some ⟨.b, 7#16⟩
        ∧ cadenceOf (cadence 7 16 ⟨4#32, 0⟩) = some ⟨7#16, 16, ⟨4#32, 0⟩⟩)
    ∧ (locked.fi.openGroups.get .a = none ∧ grouped.fi.openGroups.get .a = some ⟨10#16, 1⟩)
    ∧ 64 ≤ (removeFirst (fun y => y.number == 10#16) (groupTableFull.table .a)).length
    ∧ (∀ s ∈ [locked, grouped, groupedFull], (removeFirst (fun y => y.number == 10#16) (s.table .a)).length < 64)
    ∧ (∀ x ∈ (locked.ring .a).slots, x.index ≠ (locked.ring .a).writeIndex)
    ∧ (∃ x ∈ (groupedFull.ring .a).slots, x.index = (groupedFull.ring .a).writeIndex)
    ∧ (locked.re.candidate = none ∧ locked.re.releasing = none ∧ grouped.re.candidate ≠ none)
    ∧ (siteDiff ⟨5#32, 0⟩ ⟨5#32, 1⟩ < 0 ∧ 27000000 < siteDiff ⟨5#32, 0⟩ ⟨3#32, 26999999⟩
        ∧ siteDiff ⟨5#32, 0⟩ ⟨5#32, 0⟩ = 0 ∧ siteDiff ⟨5#32, 0⟩ ⟨4#32, 0⟩ = 27000000) := by decide +kernel

theorem witness_RejectedCadenceClosesGroup :
    grouped.lines.resetHeld = false ∧ (grouped.framer .a).link = .locked ∧ grouped.re.mode = .sfn
    ∧ pidOf (cadence 10 15 ⟨5#32, 0⟩) = 8181 ∧ cadenceOf (cadence 10 15 ⟨5#32, 0⟩) = none
    ∧ grouped.fi.openGroups.get .a = some ⟨10#16, 1⟩
    ∧ ((locked.framer .a).link = .locked ∧ locked.re.mode = .sfn ∧ locked.fi.openGroups.get .a = none) := by decide +kernel

theorem witness_PortLPacket :
    (locked.lines.resetHeld = false ∧ (locked.framer .l).link = .locked ∧ locked.cm.load.state ≠ .opened
      ∧ pidOf nullPacket = 8191 ∧ pidOf (plain 1000 0) ≠ 8180 ∧ pidOf (plain 1000 0) ≠ 8191)
    ∧ ((loading .opened 2 []).cm.load.state = .opened ∧ ((loading .opened 2 []).framer .l).link = .locked
      ∧ (loading .opened 2 []).cm.load.map.idxOf? (pidOf (plain 1000 0)) = some 0
      ∧ ((loading .opened 2 []).cm.record 0).declared ≤ ((loading .opened 2 []).cm.record 0).count)
    ∧ (∀ buffer ∈ [List.replicate 63 (⟨0, nullPacket⟩ : BufferedPacket), List.replicate 64 ⟨0, nullPacket⟩],
        (loading .opened 1 buffer).cm.load.map.idxOf? (pidOf (plain 1001 0)) = some 1
        ∧ ((loading .opened 1 buffer).cm.record 0).count < ((loading .opened 1 buffer).cm.record 0).declared)
    ∧ (loading .opened 1 (List.replicate 63 ⟨0, nullPacket⟩)).cm.load.buffer.length < 64
    ∧ 64 ≤ (loading .opened 1 (List.replicate 64 ⟨0, nullPacket⟩)).cm.load.buffer.length := by decide +kernel

/-- `grouped` meets the law of position 0, and so does every state with its rings and open groups. -/
theorem cadenceLeads_of_grouped (s : State) (h1 : s.ds.rings = grouped.ds.rings)
    (h2 : s.fi.openGroups = grouped.fi.openGroups) : s.CadenceLeads := by
  intro f
  have hr : s.ring f = grouped.ring f := by simp [State.ring, h1]
  rw [hr, h2]
  cases f <;> exact ⟨by decide +kernel, fun g h => by cases h; decide⟩

theorem startsGroup_groupDue : groupDue.StartsGroup 10#16 .a (recordOf 10#16 ⟨5#32, 0⟩) :=
  ⟨rfl, rfl, rfl, rfl, by decide +kernel, by decide +kernel, by decide, cadenceLeads_of_grouped _ rfl rfl, rfl, rfl, nofun⟩

/-- Numbers 8 and 9 are skipped here. -/
theorem witness_GroupStart :
    groupDue.StartsGroup 10#16 .a (recordOf 10#16 ⟨5#32, 0⟩) ∧ groupDue.re.lastStarted = some 7#16
    ∧ (mfn.lines.resetHeld = false ∧ mfn.re.mode = .mfn ∧ mfn.dt.rate = none ∧ mfn.re.candidate = none) :=
  ⟨startsGroup_groupDue, rfl, by decide +kernel⟩

/-- The same with changes pending for a cadence number. -/
def groupDuePending (m : Cadence) : State :=
  { groupDue with dt := { groupDue.dt with pendingRate := some ⟨24000000, m⟩, pendingOffset := some ⟨-5, m⟩ } }

/-- A change is due from the number n down to n − 32,767, and not at n − 32,768. -/
theorem witness_GroupStartAnchors :
    (∀ m : Cadence, (groupDuePending m).StartsGroup 10#16 .a (recordOf 10#16 ⟨5#32, 0⟩))
    ∧ (10#16 - 10#16).toNat ≤ 32767 ∧ (10#16 - 32779#16).toNat = 32767 ∧ ¬ (10#16 - 32778#16).toNat ≤ 32767 :=
  ⟨fun _ =>
    have ⟨_, _, _, _, h5, h6, h7, _, _, _, _⟩ := startsGroup_groupDue
    ⟨rfl, rfl, rfl, rfl, h5, h6, h7, cadenceLeads_of_grouped _ rfl rfl, rfl, rfl, nofun⟩, by decide +kernel⟩

/-- The group start with a changeover pending (feed A LOST), and with a revert pending (feed B selected, A preferred). -/
def groupDueChangeover : State :=
  { groupDue with
    fi := { groupDue.fi with framers := groupDue.fi.framers.set .a (framerIn .lost true none) }
    re := { groupDue.re with changeoverPending := true } }

def groupDueRevert : State :=
  { groupDue with re := { groupDue.re with selected := .b, revertPending := true, revertTimer := some ⟨1#32, 0⟩ } }

theorem witness_OverlapAndSelection :
    (groupDueBusy.StartsGroup 10#16 .a (recordOf 10#16 ⟨5#32, 0⟩) ∧ groupDueBusy.re.releasing = some ⟨.b, 7#16⟩
      ∧ groupDueBusy.record? .b 7#16 = some { recordOf 7#16 ⟨4#32, 0⟩ with state := .releasing, nextPosition := 1 }
      ∧ ∀ h, ((groupDueBusy.table h).map (·.number)).Nodup)
    ∧ (State.StartsGroup
          { groupDueChangeover with re := { groupDueChangeover.re with changeoverPending := false, revertPending := false } }
          10#16 .a (recordOf 10#16 ⟨5#32, 0⟩)
        ∧ groupDueChangeover.re.changeoverPending = true ∧ groupDueChangeover.changeoverDue = true)
    ∧ (State.StartsGroup
          { groupDueRevert with re := { groupDueRevert.re with changeoverPending := false, revertPending := false } }
          10#16 .b (recordOf 10#16 ⟨5#32, 0⟩)
        ∧ groupDueRevert.re.changeoverPending = false ∧ groupDueRevert.re.revertPending = true
        ∧ groupDueRevert.revertCondition = true) :=
  ⟨⟨⟨rfl, rfl, rfl, rfl, by decide +kernel, by decide +kernel, by decide, cadenceLeads_of_grouped _ rfl rfl, rfl, rfl,
      fun g h => by cases h; decide +kernel⟩, rfl, by decide +kernel,
      fun h => by cases h <;> decide +kernel⟩,
    ⟨⟨rfl, rfl, rfl, rfl, by decide +kernel, by decide +kernel, by decide, cadenceLeads_of_grouped _ rfl rfl, rfl, rfl,
      nofun⟩, rfl, by decide +kernel⟩,
    ⟨⟨rfl, rfl, rfl, rfl, by decide +kernel, by decide +kernel, by decide, cadenceLeads_of_grouped _ rfl rfl, rfl, rfl,
      nofun⟩, rfl, rfl, by decide +kernel⟩⟩

/-- Group 10 with no rate set, and as the second eligible number with group 8 the candidate. -/
def groupNoRate : State := { groupDue with dt := { groupDue.dt with rate := none } }

def groupPassed : State :=
  { groupDue with re := { groupDue.re with candidate := some 8#16, mode := .sfn } }

/-- A record is stale at 2 s 0 after an arrival at 0 s 0, and not one tick before. -/
theorem witness_PassedAndStaleRecords :
    (∀ s ∈ [groupNoRate, groupPassed],
      s.lines.resetHeld = false ∧ s.record? .a 10#16 = some (recordOf 10#16 ⟨5#32, 0⟩)
      ∧ (recordOf 10#16 ⟨5#32, 0⟩).verdict = .onTime ∧ (recordOf 10#16 ⟨5#32, 0⟩).state ≠ .releasing
      ∧ s.re.lastStarted = some 7#16 ∧ cadenceAfter 10#16 7#16 = true ∧ atOrAfter s.tu.time ⟨5#32, 0⟩ = true
      ∧ s.groupStartDue = false)
    ∧ (groupNoRate.dt.rate = none ∧ groupPassed.re.candidate ≠ some 10#16 ∧ groupPassed.re.releasing = none)
    ∧ isBefore grouped.tu.time (recordOf 10#16 ⟨5#32, 0⟩).release = true
    ∧ groupDue.re.releasing = none
    ∧ atOrAfter ⟨2#32, 0⟩ (addTicks (addTicks (recordOf 10#16 ⟨5#32, 0⟩).arrival 27000000) 27000000) = true
    ∧ isBefore ⟨1#32, 26999999⟩ (addTicks (addTicks (recordOf 10#16 ⟨5#32, 0⟩).arrival 27000000) 27000000) = true := by
  decide +kernel

theorem slotDue_mfn (now : SiteTime) (packet : Packet) (h : atOrAfter now now = true) :
    (mfnSlotDue now packet).SlotDue now (pacerFor 20000000) := ⟨rfl, rfl, ⟨now, rfl, h⟩, rfl, rfl⟩

/-- Slots whose head ends at stage 1, on PID 8181 and on 8182, and one whose head is a null packet. -/
theorem witness_MfnSlot_stage1 :
    (∀ packet, (mfnSlotDue ⟨0#32, 2700000⟩ packet).SlotDue ⟨0#32, 2700000⟩ (pacerFor 20000000))
    ∧ (∀ pid ∈ [8181, 8182, 8191], let s := mfnSlotDue ⟨0#32, 2700000⟩ (plain pid 0)
      s.re.mode = .mfn ∧ s.re.changeoverPending = false ∧ s.re.revertPending = false ∧ s.re.selected = .a
      ∧ (⟨0, .held, plain pid 0, ⟨0#32, 0⟩, none, none⟩ : Slot) ∈ (s.ring .a).slots ∧ s.re.readIndex.get .a = 0
      ∧ atOrAfter ⟨0#32, 2700000⟩ (addTicks ⟨0#32, 0⟩ s.dt.nominalDelay) = true ∧ pidOf (plain pid 0) = pid
      ∧ ((s.ring .a).slots.map (·.index)).Nodup ∧ (∀ x ∈ (s.ring .a).slots, x.index < ringSlots)
      ∧ (s.ring .a).writeIndex < ringSlots) :=
  ⟨fun _ => slotDue_mfn _ _ (by decide +kernel), by decide +kernel⟩

/-- With Dn 2,700,000 the head that arrived at 0 is due at 2,700,000 and not at 2,699,999. -/
theorem witness_MfnSlot :
    ((mfnSlotDue ⟨0#32, 2699999⟩ (plain 100 0)).SlotDue ⟨0#32, 2699999⟩ (pacerFor 20000000)
      ∧ (∀ x ∈ ((mfnSlotDue ⟨0#32, 2699999⟩ (plain 100 0)).ring .a).slots,
          isBefore ⟨0#32, 2699999⟩ (addTicks x.arrival mfn.dt.nominalDelay) = true))
    ∧ (mfnSlotDue ⟨0#32, 2700000⟩ (plain 100 0)).SlotDue ⟨0#32, 2700000⟩ (pacerFor 20000000)
    ∧ (let s := mfnSlotDue ⟨0#32, 2700000⟩ (plain 100 0)
      s.re.mode = .mfn ∧ s.re.changeoverPending = false ∧ s.re.revertPending = false ∧ s.re.selected = .a
      ∧ s.re.readIndex.get .a = 0 ∧ (⟨0, .held, plain 100 0, ⟨0#32, 0⟩, none, none⟩ : Slot) ∈ (s.ring .a).slots
      ∧ atOrAfter ⟨0#32, 2700000⟩ (addTicks ⟨0#32, 0⟩ s.dt.nominalDelay) = true ∧ usablePid (pidOf (plain 100 0)) = true
      ∧ (∀ c, (s.channel c).state = .disabled) ∧ s.st.entry? 100 = none ∧ s.st.default = .pass
      ∧ s.st.produces 100 = false ∧ pidOf nullPacket = 8191)
    ∧ ((mfnSlotDue ⟨0#32, 2700000⟩ (plain 100 0)).ring .a).Lawful :=
  ⟨⟨slotDue_mfn _ _ (by decide +kernel), by decide +kernel⟩, slotDue_mfn _ _ (by decide +kernel), by decide +kernel,
    by decide +kernel, by decide +kernel, by decide +kernel⟩

/-- O20: the read index at an EMPTY slot, the ring holding a packet in the slot after it: an idle slot, and the index stands (log entry
47). -/
theorem witness_MfnSlot_hole :
    let s := { mfnSlotDue ⟨0#32, 2700000⟩ nullPacket with
               ds := { mfn.ds with rings := ⟨⟨[⟨1, .held, nullPacket, ⟨0#32, 0⟩, none, none⟩], 2⟩, ⟨[], 0⟩⟩ } }
    s.SlotDue ⟨0#32, 2700000⟩ (pacerFor 20000000) ∧ s.re.mode = .mfn ∧ s.re.changeoverPending = false ∧ s.re.revertPending = false
    ∧ (∀ x ∈ (s.ring .a).slots, x.index ≠ s.re.readIndex.get .a) ∧ (s.ring .a).slots ≠ []
    ∧ (after .departureSlot s).re.counters.mfnIdleSlots = 1 ∧ (after .departureSlot s).re.readIndex.get .a = 0 := by
  refine ⟨⟨rfl, rfl, ⟨⟨0#32, 2700000⟩, rfl, by decide +kernel⟩, rfl, rfl⟩, ?_⟩
  decide +kernel

/-- MFN mode at a slot of 10 s 5, its time 10 s 0 held as the next slot time, the last released arrival 9 s 0, with a slot of
ring B to be discarded, one tick before 9 s 0 minus Dn, and one that stays. -/
def mfnSwitching (head : List Slot) (re : ReleaseEngine) : State :=
  { mfn with
    ds := { mfn.ds with
            rings := ⟨⟨[], 0⟩, ⟨⟨0, .held, plain 100 0, ⟨8#32, 24299999⟩, none, none⟩ :: head, 2⟩⟩ }
    dt := { mfn.dt with rate := some 20000000, pacer := some (pacerFor 20000000), nextSlot := some ⟨10#32, 0⟩ }
    tu := { mfn.tu with time := ⟨10#32, 5⟩ }
    fi := { mfn.fi with framers := mfn.fi.framers.set .a (framerIn .lost true none) }
    re := { re with mode := .mfn, lastReleasedArrival := some ⟨9#32, 0⟩ } }

/-- Feed A selected and LOST; and feed A selected and LOST, its changeover not pending, with B the preferred feed, to which a revert
is pending. -/
def mfnChangeover (head : List Slot) : State := mfnSwitching head { mfn.re with changeoverPending := true }

def mfnRevert (head : List Slot) : State :=
  mfnSwitching head { mfn.re with preferred := .b, revertPending := true, revertTimer := some ⟨0#32, 0⟩ }

/-- The head of ring B due at 10 s 6, and at 10 s 5, that slot's start. -/
def headAt (tick : Nat) : Slot := ⟨1, .held, nullPacket, ⟨9#32, 24300000 + tick⟩, none, none⟩

theorem slotDue_mfnSwitching (head : List Slot) (re : ReleaseEngine) :
    (mfnSwitching head re).SlotDue ⟨10#32, 5⟩ (pacerFor 20000000) :=
  ⟨rfl, rfl, ⟨⟨10#32, 0⟩, rfl, by decide +kernel⟩, by simp [State.groupStartDue, mfnSwitching], rfl⟩

/-- With the head not yet due, with no head, and with the head due. -/
theorem witness_ChangeoverInMfn :
    (∀ head re, (mfnSwitching head re).SlotDue ⟨10#32, 5⟩ (pacerFor 20000000))
    ∧ (∀ head ∈ [[headAt 6], [], [headAt 5]],
        ((mfnChangeover head).re.mode = .mfn ∧ (mfnChangeover head).re.changeoverPending = true
          ∧ (mfnChangeover head).changeoverDue = true ∧ .b = (mfnChangeover head).re.selected.other)
        ∧ ((mfnRevert head).re.mode = .mfn ∧ (mfnRevert head).re.changeoverPending = false
          ∧ (mfnRevert head).re.revertPending = true ∧ (mfnRevert head).revertCondition = true ∧ .b = (mfnRevert head).re.preferred)
        ∧ ((mfnChangeover head).ring .b).Lawful ∧ (mfnChangeover head).dt.nominalDelay = 2700000)
    ∧ (isBefore (⟨8#32, 24299999⟩ : SiteTime) (addTicks ⟨9#32, 0⟩ (-2700000)) = true
        ∧ isBefore (headAt 5).arrival (addTicks ⟨9#32, 0⟩ (-2700000)) = false
        ∧ isBefore ⟨10#32, 5⟩ (addTicks (headAt 6).arrival 2700000) = true
        ∧ atOrAfter ⟨10#32, 5⟩ (addTicks (headAt 5).arrival 2700000) = true ∧ pidOf (headAt 5).packet = 8191) := by
  refine ⟨slotDue_mfnSwitching, ?_, by decide +kernel⟩
  intro head h
  simp only [List.mem_cons, List.not_mem_nil, or_false] at h
  rcases h with rfl | rfl | rfl <;>
    exact ⟨by decide +kernel, by decide +kernel, ⟨by decide +kernel, by decide +kernel, by decide +kernel⟩, rfl⟩

theorem slotDue_releasingAt (k : Nat) (rings : PerFeed Ring) : (releasingAt k rings).SlotDue ⟨5#32, 0⟩ (pacerFor 20000000) :=
  ⟨rfl, rfl, ⟨⟨5#32, 0⟩, rfl, (by decide +kernel : atOrAfter ⟨5#32, 0⟩ ⟨5#32, 0⟩ = true)⟩, rfl, rfl⟩

/-- Positions 1 and 14 are not the last of sixteen, position 15 is. -/
theorem witness_SfnSlot :
    (∀ k ∈ [1, 14, 15], let s := releasingAt k ⟨ringNone, ringNone⟩
      s.re.mode = .sfn ∧ s.re.releasing = some ⟨.a, 10#16⟩ ∧ (s.record? .a 10#16).map (·.nextPosition) = some k
      ∧ s.holder .a 10#16 k = none ∧ s.holder .b 10#16 k = none ∧ ((s.table .a).map (·.number)).Nodup
      ∧ ((s.table .b).map (·.number)).Nodup)
    ∧ (∀ k rings, (releasingAt k rings).SlotDue ⟨5#32, 0⟩ (pacerFor 20000000))
    ∧ (let s := releasingAt 14 ⟨ringWith nullPacket 14, ringNone⟩
      s.holder .a 10#16 14 = some (slotAt 0 nullPacket 10#16 14) ∧ pidOf nullPacket = 8191 ∧ 14 + 1 < 16)
    ∧ (∀ h, ((releasingAt 14 ⟨ringWith nullPacket 14, ringNone⟩).ring h).Lawful)
    ∧ (let s := releasingAt 14 ⟨ringNone, ringWith nullPacket 14⟩
      s.holder .a 10#16 14 = none ∧ s.record? .b 10#16 = some (recordOf 10#16 ⟨5#32, 0⟩)
      ∧ (recordOf 10#16 ⟨5#32, 0⟩).length = 16 ∧ (recordOf 10#16 ⟨5#32, 0⟩).verdict ≠ .early
      ∧ s.holder .b 10#16 14 = some (slotAt 0 nullPacket 10#16 14)) :=
  ⟨by decide +kernel, slotDue_releasingAt, by decide +kernel,
    fun h => by cases h <;> exact ⟨by decide +kernel, by decide +kernel, by decide +kernel⟩, by decide +kernel⟩

theorem witness_ForcedReturnAndRevertTimer :
    (∀ st ∈ [ChannelState.out, .returning], ((spliced st .ready).channel 0).state = st
      ∧ (((spliced st .ready).channel 0).active.bind (·.out)).map (fun o => (o.forced, o.forcedAt)) = some (false, ⟨37#32, 0⟩))
    ∧ atOrAfter ⟨37#32, 0⟩ ⟨37#32, 0⟩ = true ∧ isBefore ⟨36#32, 26999999⟩ ⟨37#32, 0⟩ = true
    ∧ (spliced .out .ready).lines.resetHeld = false
    ∧ (groupDueRevert.lines.resetHeld = false ∧ groupDueRevert.re.revertTimer = some ⟨1#32, 0⟩ ∧ groupDueRevert.re.revertHold = 10)
    ∧ ((10 * 27000000 : Nat) : Int) ≤ siteDiff ⟨11#32, 0⟩ ⟨1#32, 0⟩
    ∧ siteDiff ⟨10#32, 26999999⟩ ⟨1#32, 0⟩ < ((10 * 27000000 : Nat) : Int) := by decide +kernel

theorem witness_PacerLaw :
    (pacerFor 1).rate = 1 ∧ (pacerFor 1).quotient = 40608000000 / 1 ∧ (pacerFor 1).remainder = 40608000000 % 1
    ∧ (pacerFor 1).acc < 1 ∧ (⟨7, 40608000000 / 7, 40608000000 % 7, 6⟩ : Pacer).acc < 7 := by decide

/-- No channel enabled; an entry that drops, one that passes and one that carries a clock, and no entry. -/
theorem witness_StreamTableAtRelease :
    usablePid (pidOf (plain 100 3)) = true ∧ (∀ c, (locked.channel c).state = .disabled)
    ∧ (∀ a ∈ [Action.pass, .drop], ∀ m ∈ [locked, mfn],
        (withEntries m [entry100 a true]).st.entry? (pidOf (plain 100 3)) = some (entry100 a true))
    ∧ carriesClock (pad [0x47#8, 0x00#8, 0x64#8, 0x33#8, 0x07#8, 0x10#8]) = true
    ∧ carriesClock (plain 100 3) = false
    ∧ locked.st.entry? 100 = none ∧ locked.st.default = .pass
    ∧ (∃ x ∈ (withEntries locked [entry100 .pass false]).st.entries, x.action = .pass ∧ x.outPid.getD x.inPid = 300)
    ∧ (∀ x ∈ (withEntries locked [entry100 .pass false]).st.entries, x.action = .pass → x.outPid.getD x.inPid ≠ 299)
    ∧ (after (.defaultActionSet fromL 1) locked).st.default = .drop := by decide +kernel

theorem witness_PulseTakenAndJudged :
    State.reset.lines.resetHeld = false ∧ (reference .locked ⟨8#32, 27⟩ 27000000).tu.ref ≠ .free
    ∧ (reference .locked ⟨8#32, 27⟩ 27000000).lines.resetHeld = false := by decide +kernel

/-- A pulse is good at 26,997,300 and at 27,002,700 local ticks, and bad one tick outside. -/
theorem witness_QualificationAndLock :
    (State.reset.lines.resetHeld = false ∧ State.reset.tu.ref = .free)
    ∧ (∀ r ∈ [RefState.holdover, .expired, .qualifying .free, .qualifying .holdover, .qualifying .expired],
        (reference r ⟨8#32, 0⟩ 29700000).lines.resetHeld = false ∧ (reference r ⟨8#32, 0⟩ 29700000).tu.ref = r
        ∧ (reference r ⟨8#32, 0⟩ 29700000).tu.missingTimer = true
        ∧ (reference r ⟨8#32, 0⟩ 29700000).tu.lastPulse = some ⟨0, some 8#32⟩
        ∧ 29700000 ≤ (reference r ⟨8#32, 0⟩ 29700000).tu.localTicks - 0)
    ∧ (∀ r n, n ∈ [26997300, 27002700] → (reference r ⟨8#32, 0⟩ n).tu.PulseGood)
    ∧ (∀ r n, n ∈ [26997299, 27002701] → ¬ (reference r ⟨8#32, 0⟩ n).tu.PulseGood)
    ∧ ({ reference (.qualifying .free) ⟨8#32, 0⟩ 27000000 with
          tu := { (reference (.qualifying .free) ⟨8#32, 0⟩ 27000000).tu with run := 2 } } : State).tu.run < 3
    ∧ (let s := reference (.qualifying .holdover) ⟨8#32, 26999000⟩ 27000000;
      s.lines.resetHeld = false ∧ s.tu.ref = .qualifying .holdover ∧ s.tu.run = 3 ∧ s.tu.lastTimeValue = some 9#32
      ∧ siteDiff ⟨9#32, 0⟩ s.tu.time = 1000)
    ∧ (reference (.qualifying .holdover) ⟨8#32, 26999000⟩ 27000000).tu.PulseGood :=
  ⟨by decide +kernel, by decide +kernel,
    fun r n h => pulseGood_reference r _ n (by simp at h; omega) (by simp at h; omega),
    fun r n h => not_pulseGood_reference r _ n (by simp at h; omega), by decide +kernel, by decide +kernel,
    pulseGood_reference _ _ _ (by decide) (by decide)⟩

/-- Phase errors of 27 and −27, and of 28 and −28. -/
theorem witness_GoodPulseInLocked :
    (∀ t : Nat, (reference .locked ⟨8#32, t⟩ 27000000).tu.PulseGood)
    ∧ (∀ t ∈ [0, 27, 26999973, 28, 26999972], let s := reference .locked ⟨8#32, t⟩ 27000000;
      s.lines.resetHeld = false ∧ s.tu.ref = .locked ∧ s.tu.lastTimeValue = some 9#32
      ∧ s.tu.lastPulse = some ⟨0, some 8#32⟩)
    ∧ ((26999973 : Int) - 27000000 = -27 ∧ (26999972 : Int) - 27000000 < -27) :=
  ⟨fun _ => pulseGood_reference _ _ _ (by decide) (by decide), by decide +kernel, by decide⟩

theorem witness_LockLossAndMissingPulse :
    (∀ n ∈ [26997299, 29699999, 29700000], let s := reference .locked ⟨8#32, 0⟩ n;
      s.lines.resetHeld = false ∧ s.tu.ref = .locked ∧ s.tu.missingTimer = true ∧ s.tu.lastPulse = some ⟨0, some 8#32⟩
      ∧ s.tu.freq10 = true)
    ∧ ¬ (reference .locked ⟨8#32, 0⟩ 26997299).tu.PulseGood
    ∧ (∀ r ∈ [RefState.free, .holdover, .expired], let s := reference r ⟨8#32, 0⟩ 29700000;
      s.tu.ref = r ∧ s.tu.missingTimer = true ∧ s.tu.ref ≠ .locked ∧ 29700000 ≤ s.tu.localTicks - 0)
    ∧ (reference .free ⟨8#32, 0⟩ 29699999).tu.localTicks - 0 < 29700000 :=
  ⟨by decide +kernel, not_pulseGood_reference _ _ _ (by decide), by decide +kernel, by decide +kernel⟩

/-- In HOLDOVER, the second of the entry still in progress. -/
def holdoverEntered (tick : Nat) : State :=
  { reference .holdover ⟨8#32, tick⟩ 27000000 with
    tu := { (reference .holdover ⟨8#32, tick⟩ 27000000).tu with holdSecond := none, hold := ⟨27000000, 1, 4, 3⟩, missingTimer := false }
    su := { State.reset.su with scanPeriod := 54000000 } }

/-- In HOLDOVER, `passed` local ticks into a second of 27,000,001. -/
def holdover (passed : Nat) (ref : RefState) : State :=
  { reference ref ⟨8#32, 26999999⟩ 27000000 with
    tu := { (reference ref ⟨8#32, 26999999⟩ 27000000).tu with
            holdSecond := some ⟨27000001, passed⟩, hold := ⟨27000000, 1, 4, 3⟩, elapsed := 3599 }
    su := { State.reset.su with scanPeriod := 54000000 } }

theorem witness_HoldoverSecond :
    (let s := holdover 27000000 .holdover;
      s.pending = [] ∧ s.lines.resetHeld = false ∧ s.dueEvents = [] ∧ s.tu.ref.inHoldover = true
      ∧ s.tu.holdSecond = some ⟨27000001, 27000000⟩)
    ∧ (∀ r ∈ [RefState.holdover, .qualifying .holdover, .expired, .qualifying .expired],
        (holdover 27000001 r).tu.ref.inHoldover = true ∧ (holdover 27000001 r).lines.resetHeld = false
        ∧ (holdover 27000001 r).tu.holdSecond = some ⟨27000001, 27000001⟩)
    ∧ (holdover 27000001 .holdover).tu.limit ≤ 3599 + 1
    ∧ (∀ t ∈ [26999998, 26999999], let s := holdoverEntered t;
        s.pending = [] ∧ s.lines.resetHeld = false ∧ s.dueEvents = [] ∧ s.tu.ref.inHoldover = true ∧ s.tu.holdSecond = none
        ∧ s.tu.time.tick = t ∧ s.tu.hold.n ≤ s.tu.hold.acc + s.tu.hold.remainder)
    ∧ 4 ≤ [27000001, 27000000, 27000000, 27000000].length := by decide +kernel

/-- A lock that a missing pulse ends. -/
theorem witness_OnlyTheReferenceEndsALock :
    let s := reference .locked ⟨8#32, 0⟩ 29700000;
    s.tu.ref = .locked ∧ (after .missingPulseTimerExpiry s).tu.ref ≠ .locked
      ∧ exec .missingPulseTimerExpiry s = .next (after .missingPulseTimerExpiry s) :=
  ⟨rfl, by decide +kernel, rfl⟩

/-- A scan due, with the action of REF_EXPIRED_STATE newly STOP, and one tick before. -/
def scanning (localTicks : Nat) (snapshot : SnapshotState) : State :=
  { reference .expired ⟨8#32, 0⟩ localTicks with
    su := { State.reset.su with
            snapshot
            trace := { State.reset.su.trace with state := .running, config := some ⟨[.refPhase], 7, true, none⟩ } } }

theorem witness_ScanTaken :
    (let s := scanning 2700000 .empty;
      s.lines.resetHeld = false ∧ s.su.scanPeriod ≤ s.tu.localTicks - s.su.scanStart
      ∧ getAt s.su.actions 4 = .stop ∧ getAt s.su.factors 4 ≠ .stop ∧ s.su.trace.state = .running ∧ s.su.trace.dividerCount = 0
      ∧ s.su.effective = .stopped)
    ∧ (∃ r, (after (.snapshotTake fromL) (scanning 2700000 .empty)).su.snapshot = .held r)
    ∧ (∀ e ∈ [Effective.running, .holding], ∀ t ∈ [none, some (⟨9#32, 0⟩ : SiteTime)],
        let s : State := { scanning 2700000 .empty with
                           su := { (scanning 2700000 .empty).su with effective := e }
                           dt := { (scanning 2700000 .empty).dt with nextSlot := t } }
        s.su.effective = e ∧ s.dt.nextSlot = t ∧ s.lines.resetHeld = false ∧ s.su.scanPeriod ≤ s.tu.localTicks - s.su.scanStart)
    ∧ (scanning 2699999 .empty).tu.localTicks - (scanning 2699999 .empty).su.scanStart < (scanning 2699999 .empty).su.scanPeriod :=
  ⟨by decide +kernel, ⟨_, rfl⟩, by decide +kernel, by decide +kernel⟩

/-- With a transfer in progress. -/
def withTransfer (s : State) (t : Transfer) : State := { s with cm := { s.cm with transfer := some t } }

/-- A channel armed, its component 0 to be read from stored position 1 of the clip. -/
def reading (page : Nat) : State :=
  let s := withTransfer (spliced .armed .ready) (.read 0 true)
  { s with
    cm := { s.cm with
            directory := setAt s.cm.directory 0 { clipRecord .ready 41 1 0 with pages := [page] }
            prefetch := setAt s.cm.prefetch 0 ⟨[], some 1, false⟩ } }

/-- A write of the one packet in the buffer, to stored position 1. -/
def writing (state : LoadState) (page : Nat) : State :=
  let s := withTransfer (loading state 2 [⟨1, nullPacket⟩]) (.write true)
  { s with cm := { s.cm with directory := setAt s.cm.directory 0 { s.cm.record 0 with pages := [page] } } }

/-- Page 8,191 is the last there is. -/
theorem witness_MemorySlots :
    (let s : State := { reading 0 with cm := { (reading 0).cm with transfer := none } };
      s.lines.resetHeld = false ∧ s.cm.transfer = none ∧ s.needsRead (s.cm.roundRobin + 0) = true
      ∧ ∀ i : Fin 16, i < 0 → s.needsRead (s.cm.roundRobin + i) = false)
    ∧ (∀ buffer ∈ [[], [(⟨0, nullPacket⟩ : BufferedPacket)]], (loading .opened 1 buffer).cm.transfer = none
        ∧ ∀ p, (loading .opened 1 buffer).needsRead p = false)
    ∧ (∀ page ∈ [8191, 8192], (reading page).cm.transfer = some (.read 0 true)
        ∧ (getAt (reading page).cm.prefetch 0).pointer = some 1
        ∧ ((reading page).heldClip (channelOf 0)).pages[1 / 256]? = some page)
    ∧ (∀ page ∈ [8191, 8192], ∀ l ∈ [LoadState.opened, .draining], (writing l page).lines.resetHeld = false
        ∧ (writing l page).cm.transfer = some (.write true) ∧ (writing l page).cm.load.buffer = [⟨1, nullPacket⟩]
        ∧ (writing l page).cm.load.state = l
        ∧ ((writing l page).cm.record (writing l page).cm.load.record).pages[1 / 256]? = some page)
    ∧ (∀ x ∈ [Transfer.write false, .read 15 false], (withTransfer locked x).cm.transfer = some x
        ∧ (withTransfer locked x).lines.resetHeld = false) := by decide +kernel

/-- Port M's queue with some packets; a queue of 63 has room for one more. -/
def queued (n : Nat) : State :=
  { locked with mu := { locked.mu with queue := List.replicate n ⟨.notice, nullPacket⟩ } }

theorem witness_PortM :
    (queued 1).lines.resetHeld = false ∧ (queued 1).mu.queue = [⟨.notice, nullPacket⟩] ∧ (queued 0).mu.queue = []
    ∧ (queued 63).mu.restartPending = false ∧ (queued 63).mu.queue.length < 64 ∧ 64 ≤ (queued 64).mu.queue.length
    ∧ restarting.mu.restartPending = true := by
  decide +kernel

/-- O34: no data, one full part and one byte more, and three parts; into a queue with room for all, for two, for one and for none. The
part number, the mark and the length of the data stand in bytes 10 to 12 of a reply (11.6). -/
theorem witness_PortM_parts :
    (∀ x ∈ [(0, [[0, 1, 0]]), (171, [[0, 1, 171]]), (172, [[0, 0, 171], [1, 1, 1]]), (342, [[0, 0, 171], [1, 1, 171]]),
            (343, [[0, 0, 171], [1, 0, 171], [2, 1, 1]])],
      (replyParts 0#12 7#8 0x60#8 .done (List.replicate x.1 0xAB#8)).map
        (fun y => ((y.packet.drop 10).take 3).map (·.toNat)) = x.2 ∧ max 1 ((x.1 + 170) / 171) = x.2.length)
    ∧ (∀ x ∈ [(61, 64, 0), (62, 64, 1), (63, 64, 2), (64, 64, 3)],
        let m := ((queued x.1).reply 7#8 0x60#8 .done (List.replicate 343 0xAB#8)).mu
        m.queue.length = x.2.1 ∧ m.counters.replyPartsDropped = x.2.2 ∧ m.counters.repliesFormed = 1) := by
  decide +kernel

/-- Every command below is heard from port L in every small state used for it. -/
theorem witness_Hears (c : AuthorityClass) :
    (∀ s ∈ [locked, mfn, grouped, holdover 27000001 .holdover, scanning 2700000 .empty, withEntries locked [entry100 .pass false],
            loading .opened 2 [], loading .draining 2 [], spliced .armed .ready, withList (spliced .network .ready) [listed]],
      s.Hears fromL.source c) ∧ (c ≠ .site → c ≠ .portLOnly → locked.Hears fromFeed.source c) := by
  refine ⟨fun s hs => ?_, fun h1 h2 => ⟨rfl, rfl, by cases c <;> simp_all <;> decide +kernel⟩⟩
  simp only [List.mem_cons, List.not_mem_nil, or_false] at hs
  rcases hs with rfl | rfl | rfl | rfl | rfl | rfl | rfl | rfl | rfl | rfl <;> exact hears_portL _ _ rfl rfl

/-- Times for a cadence number, and a new limit that is and one that is not already passed. -/
theorem witness_TimingCommands :
    locked.Hears fromL.source .timing ∧ (⟨0, 5#16⟩ : TimingParam).choice = 0 ∧ (⟨1, 5#16⟩ : TimingParam).choice = 1
    ∧ 1 < (⟨2, 5#16⟩ : TimingParam).choice ∧ locked.re.mode = .sfn ∧ mfn.Hears fromL.source .timing ∧ mfn.re.mode = .mfn
    ∧ locked.tu.ref = .free ∧ (holdover 5 .holdover).Hears fromL.source .timing ∧ (holdover 5 .holdover).tu.ref ≠ .free
    ∧ 3599 = max 10 (min 86400 3599) ∧ (holdover 5 .holdover).tu.elapsed = 3599 :=
  ⟨hears_portL _ _ rfl rfl, rfl, rfl, by decide, rfl, hears_portL _ _ rfl rfl, rfl, rfl, hears_portL _ _ rfl rfl, by decide +kernel,
    by decide, rfl⟩

theorem witness_RateSet :
    locked.Hears fromL.source .timing ∧ (999999 < 1000000 ∧ 72000000 < 72000001)
    ∧ (1000000 ≤ 1000000 ∧ 72000000 ≤ 72000000) ∧ (⟨2, 5#16⟩ : TimingParam).choice = 2 ∧ locked.dt.rate = none
    ∧ mfn.re.mode = .mfn ∧ mfn.Hears fromL.source .timing ∧ grouped.Hears fromL.source .timing ∧ grouped.re.mode = .sfn
    ∧ grouped.dt.rate = some 20000000 :=
  ⟨hears_portL _ _ rfl rfl, by decide, by decide, rfl, rfl, rfl, hears_portL _ _ rfl rfl, hears_portL _ _ rfl rfl, rfl, rfl⟩

/-- The gate RUNNING. -/
def running : State := { locked with su := { locked.su with effective := .running } }

theorem witness_ModeAndPolicy :
    locked.Hears fromL.source .site ∧ running.Hears fromL.source .site ∧ running.su.effective ≠ .stopped
    ∧ locked.su.effective = .stopped ∧ locked.re.mode = .sfn ∧ mfn.Hears fromL.source .site ∧ mfn.re.mode = .mfn
    ∧ grouped.Hears fromL.source .site ∧ grouped.dt.rate = some 20000000
    ∧ 1 < (⟨2, 0, 10, 0, 0, 0⟩ : FeedPolicyParams).preferred ∧ (⟨1, 1, 600, 0, 0, 0⟩ : FeedPolicyParams).policy ≤ 1 :=
  ⟨hears_portL _ _ rfl rfl, hears_portL _ _ rfl rfl, by decide +kernel, rfl, rfl, hears_portL _ _ rfl rfl, rfl,
    hears_portL _ _ rfl rfl, rfl, by decide, by decide⟩

/-- A table of 128 entries, PIDs 1,000 to 1,127. -/
def tableFull : State :=
  withEntries locked ((List.range 128).map fun i => { entry100 .pass false with inPid := 1000 + i, outPid := none })

theorem witness_StreamWriteAndErase :
    locked.Hears fromL.source .tables ∧ tableFull.Hears fromL.source .tables ∧ 128 ≤ tableFull.st.entries.length
    ∧ tableFull.st.entry? 100 = none ∧ usablePid 8183 = true ∧ usablePid 8182 = false ∧ usablePid 8191 = false
    ∧ (∃ x ∈ (withEntries locked [entry100 .pass false]).st.entries, x.inPid ≠ 300 ∧ x.action = .pass ∧ x.outPid.getD x.inPid = 300)
    ∧ (∃ c : Fin 4, ((spliced .network .ready).channel c).state ≠ .disabled
        ∧ ∃ j : Fin 4, ((spliced .network .ready).channel c).pids[j.val]? = some 200)
    ∧ (∀ c : Fin 4, ((spliced .network .ready).channel c).state = .disabled
        ∨ ∀ j : Fin 4, ((spliced .network .ready).channel c).pids[j.val]? ≠ some 100)
    ∧ (withEntries (spliced .network .ready) [entry100 .pass false]).st.entry? 100 = some (entry100 .pass false) :=
  ⟨hears_portL _ _ rfl rfl, hears_portL _ _ rfl rfl, by decide +kernel⟩

/-- A trace ring with one sample, and an empty one. -/
def sampled : State :=
  { locked with
    su := { locked.su with trace := { locked.su.trace with samples := [⟨0#32, ⟨0#32, 0⟩, [(.refPhase, 0)]⟩], state := .running
                                                           config := some ⟨[.refPhase], 0, false, none⟩ } } }

theorem witness_Reports :
    locked.Hears fromL.source .reporting ∧ fromL.source = .portL ∧ usablePid 100 = true
    ∧ (withEntries locked [entry100 .pass false]).st.entry? 100 = some (entry100 .pass false) ∧ locked.st.entry? 100 = none
    ∧ (spliced .network .ready).cm.find 41 = some 0 ∧ locked.cm.find 65535 = none ∧ 0 < sampled.su.trace.samples.length
    ∧ sampled.su.trace.samples ≠ [] ∧ sampled.su.trace.samples.length ≤ 1 ∧ locked.su.trace.samples = []
    ∧ allBlocks[9]?.isSome = true ∧ 10 < 11
    ∧ (∀ x ∈ [8180, 8181, 8182, 8191, 8192], ¬ (x ≤ 8191 ∧ x ≠ 8180 ∧ x ≠ 8181 ∧ x ≠ 8182 ∧ x ≠ 8191))
    ∧ (∀ x ∈ [0, 8179, 8183, 8190], x ≤ 8191 ∧ x ≠ 8180 ∧ x ≠ 8181 ∧ x ≠ 8182 ∧ x ≠ 8191)
    ∧ 3 < 4 ∧ (0 < 1 ∧ 65535 < 65536) :=
  ⟨hears_portL _ _ rfl rfl, by decide +kernel⟩

theorem witness_SettingsStored :
    locked.Hears fromL.source .site ∧ locked.Hears fromL.source .portLOnly ∧ locked.Hears fromL.source .gate
    ∧ locked.Hears fromL.source .tables ∧ (after (.authorityWrite fromL 0) locked).mu.authority = 0#6 ∧ 65534 < 65535 ∧ 63 < 64 :=
  ⟨hears_portL _ _ rfl rfl, hears_portL _ _ rfl rfl, hears_portL _ _ rfl rfl, hears_portL _ _ rfl rfl, by decide +kernel⟩

theorem witness_FlagsAndMasks :
    locked.Hears fromFeed.source .reporting ∧ 2 ^ 26 - 1 < 2 ^ 26
    ∧ ((List.replicate 26 1).length = 26 ∧ ∀ m ∈ List.replicate 26 1, m ≤ 1)
    ∧ ((List.replicate 25 1).length ≠ 26 ∧ ∃ m ∈ List.replicate 25 1 ++ [2], 1 < m) :=
  ⟨⟨rfl, rfl, by decide +kernel⟩, by decide +kernel⟩

/-- The picture a snapshot on command takes. -/
def picture (s : State) : Snapshot := s.picture .command

theorem witness_SnapshotAndTrace :
    locked.Hears fromL.source .reporting ∧ locked.su.snapshot = .empty
    ∧ (after (.snapshotTake fromL) locked).su.snapshot = .held (picture locked)
    ∧ (run locked [.snapshotTake fromL, .snapshotRead fromL]).su.snapshot = .read (picture locked)
    ∧ (1 ≤ [Quantity.monitorQueueFill].length ∧ (⟨[13], 7, 1, 1, 25⟩ : TraceParams).quantities = [Quantity.monitorQueueFill].map Quantity.number
      ∧ (⟨[13], 7, 1, 1, 25⟩ : TraceParams).flag = EventFlag.mgmtRefused.number)
    ∧ (∃ q ∈ [14], 13 < q) ∧ 7 < 8 ∧ sampled.su.trace.state = .running ∧ locked.su.trace.config = none
    ∧ ¬ (locked.su.trace.state = .waiting ∨ locked.su.trace.state = .running)
    ∧ (after (.traceConfigure fromL ⟨[13], 7, 1, 1, 25⟩) locked).su.trace.config = some ⟨[.monitorQueueFill], 7, true, some .mgmtRefused⟩
    ∧ (after (.traceConfigure fromL ⟨[0], 0, 0, 0, 0⟩) locked).su.trace.config = some ⟨[.storeFillA], 0, false, none⟩ :=
  ⟨hears_portL _ _ rfl rfl, by decide +kernel⟩

theorem witness_GateCommands :
    running.Hears fromL.source .gate ∧ running.su.mgmt = .run ∧ running.dt.nextSlot = none
    ∧ locked.Hears fromL.source .gate ∧ locked.su.effective = .stopped ∧ getAt locked.su.conditions 8 = false ∧ 8 < 9 ∧ 2 < 3 :=
  ⟨hears_portL _ _ rfl rfl, rfl, rfl, hears_portL _ _ rfl rfl, by decide +kernel⟩

theorem witness_RestartAndRefusals :
    locked.lines.resetHeld = false ∧ locked.mu.restartPending = false ∧ locked.mu.allows fromL.source .site = true
    ∧ classOfCode 0x00#8 = none ∧ classOfCode 0x64#8 = none ∧ fromFeed.source = .feed
    ∧ (classOfCode (codeOf .restart) = some .site ∧ AuthorityClass.site.bit? = some 5 ∧ locked.mu.authority.getLsbD 5 = false)
    ∧ (classOfCode (codeOf .clipLoadAbandon) = some .portLOnly ∧ AuthorityClass.portLOnly.bit? = none) := by decide +kernel

/-- Entries that let PIDs 200 and 201 be a channel's components. -/
def passing : List StreamEntry :=
  [{ entry100 .pass false with inPid := 200, outPid := none }, { entry100 .pass false with inPid := 201, outPid := none }]

/-- No conflict, with the two entries standing; a list whose head is READY, and one whose head is not. -/
theorem witness_ChannelCommands :
    (∀ st ∈ [ChannelState.disabled, .network, .armed, .out, .returning], ((spliced st .ready).channel 0).state = st
      ∧ ((spliced st .ready).channel 0).list = [] ∧ (spliced st .ready).lines.resetHeld = false)
    ∧ (∀ st, (spliced st .ready).Hears fromL.source .splice)
    ∧ (usablePid 50 = true ∧ usablePid 200 = true ∧ usablePid 201 = true ∧ ([200, 201] : List Nat).Nodup ∧ 50 ∉ [200, 201]
      ∧ (∀ d : Fin 4, d ≠ 0 → ((spliced .network .ready).channel d).state = .disabled)
      ∧ (spliced .network .ready).st.entry? 200 = none)
    ∧ usablePid 8191 = false ∧ ¬ ([200, 200] : List Nat).Nodup
    ∧ (∀ x ∈ [200, 201], ∃ e, (withEntries (spliced .network .ready) passing).st.entry? x = some e ∧ e.action = .pass
        ∧ e.managed = true ∧ e.carrier = false)
    ∧ ((withList (spliced .network .ready) [listed]).channel 0).list = [listed]
    ∧ (withList (spliced .network .ready) [listed]).cm.findReady listed.clip = some 0
    ∧ (withList (spliced .network .loading) [listed]).cm.findReady listed.clip = none
    ∧ ((spliced .out .ready).cm.find 41 = some 0 ∧ ((spliced .out .ready).cm.record 0).state = .ready
      ∧ ((spliced .out .deletePending).cm.record 0).state = .deletePending ∧ ((spliced .out .deletePending).cm.record 0).use = 1)
    ∧ 3 < 4 :=
  ⟨by decide +kernel, fun _ => hears_portL _ _ rfl rfl, by decide +kernel⟩

theorem witness_CueMatchAndCancel :
    locked.Hears fromL.source .splice ∧ (7 < 8 ∧ 255 < 256 ∧ 15 < 16 ∧ 65535 < 65536)
    ∧ (∀ st ∈ [ChannelState.disabled, .network, .armed, .out, .returning], ((spliced st .ready).channel 0).state = st)
    ∧ (∀ a, ((spliced .network .ready).channel 0).active = some a → a.event ≠ 12)
    ∧ (∃ q ∈ ((withList (spliced .network .loading) [listed]).channel 0).list, q.event = 12)
    ∧ (∀ q ∈ ((withList (spliced .network .loading) [listed]).channel 0).list,
        (withList (spliced .network .loading) [listed]).cm.findReady q.clip = none)
    ∧ (∀ st ∈ [ChannelState.armed, .out, .returning], ((spliced st .ready).channel 0).active.map (·.event) = some 11
        ∧ ((spliced st .ready).channel 0).list = []
        ∧ ((withList (spliced st .ready) [listed]).channel 0).list = [listed])
    ∧ ((spliced .armed .ready).cm.findReady listed.clip = some 0 ∧ (spliced .armed .deletePending).cm.findReady listed.clip = none)
    ∧ (1 < 2 ∧ 3 < 4) :=
  ⟨hears_portL _ _ rfl rfl, by decide, by decide +kernel, nofun, by decide +kernel, by decide +kernel, by decide +kernel,
    by decide +kernel, by decide⟩

/-- A cue for clip 41 by match entry 0, and one that no entry fits; the window passes one unit after T + 180,000. -/
theorem witness_CuePost :
    (spliced .network .ready).Hears fromL.source .splice ∧ ((spliced .network .ready).channel 0).state ≠ .disabled
    ∧ (∀ st ∈ [ChannelState.network, .armed, .out], (spliced st .ready).sc.cueMatches.toList.find?
        (fun e => e.enabled && e.avail == 3 && e.mask.getLsbD 0) = some ⟨true, 3, 0b0001#4, some 41⟩)
    ∧ (spliced .network .ready).sc.cueMatches.toList.find? (fun e => e.enabled && e.avail == 4 && e.mask.getLsbD 0) = none
    ∧ (((spliced .out .ready).channel 0).state.holdsClip = true
        ∧ ((spliced .out .ready).channel 0).active.map (·.event) = some 11)
    ∧ (ptsAfter (1900000#33 + 180001#33) (1900000#33 + 180000#33) = true
        ∧ ptsAfter (1900000#33 + 180000#33) (1900000#33 + 180000#33) = false)
    ∧ ((spliced .network .ready).channel 0).list = [] ∧ (spliced .network .ready).cm.findReady 41 = some 0
    ∧ (spliced .network .loading).cm.findReady 41 = none
    ∧ 8 ≤ (List.replicate 8 listed).length ∧ (∀ q ∈ List.replicate 8 listed, q.event ≠ 11)
    ∧ (((withList (spliced .network .loading) [listed]).channel 0).list = [listed] ∧ listed.event = 12
        ∧ (withList (spliced .network .loading) [listed]).cm.findReady listed.clip = none)
    ∧ ((primed (withList (spliced .network .loading) [listed]) 2700000#33).channel 0).lastPts = some 2700000#33
    ∧ ((2799999#33 - 2700000#33).toInt < (2800000#33 - 2700000#33).toInt
        ∧ ¬ (2800000#33 - 2700000#33).toInt < (2800000#33 - 2700000#33).toInt) :=
  ⟨hears_portL _ _ rfl rfl, by decide +kernel⟩

/-- For the active splice of event 11, out at 1,900,000 with its forced return at 37 s, for the listed cue of event 12 and for an
event that nothing bears. An IN at 2,000,000 moves the forced return to 8 s 3,000,000, which is 5 s and 100,000 × 300 + 54,000,000
ticks. -/
theorem witness_InAndCancelCues :
    (∀ st ∈ [ChannelState.network, .armed, .out, .returning], (spliced st .ready).lines.resetHeld = false
      ∧ (spliced st .ready).mu.restartPending = false ∧ ((spliced st .ready).channel 0).state ≠ .disabled)
    ∧ (∀ st ∈ [ChannelState.out, .returning], ((spliced st .ready).channel 0).active.map (·.event) = some 11
        ∧ (((spliced st .ready).channel 0).active.bind (·.out)).map (fun o => (o.pts, o.forced, o.siteTime))
            = some (1900000#33, false, ⟨5#32, 0⟩))
    ∧ ((2000000#33 - 1900000#33).toNat < 2 ^ 32 ∧ addTicks ⟨5#32, 0⟩ ((100000 * 300 + 54000000 : Nat) : Int) = ⟨8#32, 3000000⟩)
    ∧ (isBefore (spliced .out .ready).tu.time ⟨8#32, 3000000⟩ = true ∧ atOrAfter ⟨8#32, 3000000⟩ ⟨8#32, 3000000⟩ = true)
    ∧ (((spliced .armed .ready).channel 0).active.map (fun a => (a.event, a.time)) = some (11, some 1900000#33)
        ∧ ptsAfter 1900001#33 1900000#33 = true ∧ ptsAfter 1900000#33 1900000#33 = false)
    ∧ (let s := withList (spliced .network .loading) [listed];
        (∀ a, (s.channel 0).active = some a → a.event ≠ 12) ∧ (s.channel 0).list.find? (fun q => q.event == 12) = some listed
        ∧ s.cm.findReady listed.clip = none ∧ ptsAfter 2800001#33 2800000#33 = true ∧ ptsAfter 2800000#33 2800000#33 = false
        ∧ ∀ q ∈ (s.channel 0).list, q.event ≠ 13) := by
  refine ⟨by decide +kernel, by decide +kernel, by decide +kernel, by decide +kernel, by decide +kernel, nofun, ?_⟩
  decide +kernel

/-- Every record of the directory in use. -/
def directoryFull : State := { locked with cm := { locked.cm with directory := Vector.replicate 64 (clipRecord .ready 7 0 0) } }

theorem witness_ClipCommands :
    (∀ s ∈ [loading .opened 2 [], loading .draining 2 [], loading .opened 1 []], s.lines.resetHeld = false
      ∧ s.cm.load.state ≠ .closed ∧ (s.cm.record s.cm.load.record).id = 41)
    ∧ (loading .opened 2 []).Hears fromL.source .portLOnly ∧ locked.Hears fromL.source .portLOnly
    ∧ (locked.cm.load.state = .closed ∧ (locked.cm.record 0).state = .free ∧ (∀ j : Fin 64, j < 0 → (locked.cm.record j).state ≠ .free)
      ∧ locked.cm.find 41 = none)
    ∧ (∀ i, (directoryFull.cm.record i).state ≠ .free)
    ∧ ((spliced .network .ready).cm.load.state = .closed ∧ ((spliced .network .ready).cm.record 1).state = .free
      ∧ (∀ j : Fin 64, j < 1 → ((spliced .network .ready).cm.record j).state ≠ .free)
      ∧ ((spliced .network .ready).cm.record 0).id = 41)
    ∧ ([] : List Nat).length * 256 < 1
    ∧ (decide (((loading .opened 2 []).cm.record 0).count = ((loading .opened 2 []).cm.record 0).declared
          ∧ (loading .opened 2 []).cm.load.excess = false) = true
        ∧ (loading .opened 2 []).cm.load.crc = ((loading .opened 2 []).cm.record 0).crc
        ∧ getAt ((loading .opened 2 []).cm.record 0).firstPts 0 ≠ none)
    ∧ (((loading .opened 1 []).cm.record 0).count ≠ ((loading .opened 1 []).cm.record 0).declared)
    ∧ ((spliced .network .ready).cm.find 41 = some 0 ∧ ((spliced .network .ready).cm.record 0).use = 0
      ∧ ((spliced .out .ready).cm.record 0).use ≠ 0 ∧ ((spliced .out .deletePending).cm.record 0).state ≠ .ready) :=
  ⟨by decide +kernel, hears_portL _ _ rfl rfl, hears_portL _ _ rfl rfl, by decide +kernel⟩

/-- The packet at the splice time 1,900,000, and at the end of its window, of an ARMED channel. -/
theorem witness_SpliceOutPoint :
    ∀ p ∈ [1900000, 2080000],
      (spliced .armed .ready).componentChannel (pidOf (entryPoint 200 0 p)) = some (0, 0)
      ∧ ((spliced .armed .ready).channel 0).state = .armed ∧ ((spliced .armed .ready).channel 0).list = []
      ∧ (((spliced .armed .ready).channel 0).active.bind (·.time)) = some 1900000#33
      ∧ payloadStart (entryPoint 200 0 p) = true ∧ randomAccess (entryPoint 200 0 p) = true
      ∧ readablePts (entryPoint 200 0 p) = some (BitVec.ofNat 33 p)
      ∧ ptsAtOrAfter (BitVec.ofNat 33 p) 1900000#33 = true
      ∧ ptsAfter (BitVec.ofNat 33 p) (1900000#33 + 180000#33) = false := by decide +kernel

/-- A cue packet of PID 50: a kind, with a splice time, for avail 3 (R106, 11.6). -/
def cuePacket (kind time : Nat) : Packet :=
  pad ([0x47#8, 0x00#8, 0x32#8, 0x10#8] ++ withCrc
    (toBytes 4 12 ++ toBytes 1 kind ++ [0x01#8] ++ toBytes 5 time ++ toBytes 4 0 ++ toBytes 1 3))

/-- A packet of a PID with payload start and a PTS, but no random access. -/
def timed (pid cc pts : Nat) : Packet :=
  pad ([0x47#8, BitVec.ofNat 8 (64 + pid / 256), BitVec.ofNat 8 pid, BitVec.ofNat 8 (16 + cc),
        0x00#8, 0x00#8, 0x01#8, 0xE0#8, 0x00#8, 0x00#8, 0x80#8, 0x80#8, 0x05#8] ++ pts5 pts)

/-- Channel 0 ARMED with an immediate cue. -/
def immediate (windowBase : Option Pts) : State :=
  { spliced .armed .ready with
    sc := { (spliced .armed .ready).sc with
            channels := setAt (spliced .armed .ready).sc.channels 0
              { (spliced .armed .ready).channel 0 with
                active := some { event := 11, clip := 41, time := none, duration := none, windowBase, returnOverride := none
                                 out := none } } } }

/-- A cue packet of each kind and one whose CRC fails; the list and the armed immediate cue at the end of their window, one unit
after it, and at a packet that is no random-access point. -/
theorem witness_CuesAtRelease :
    (∀ kind ∈ [0, 1, 2], let pay := payloadOf (cuePacket kind 2800000)
      pidOf (cuePacket kind 2800000) = 50 ∧ usablePid 50 = true ∧ transportError (cuePacket kind 2800000) = false
      ∧ payloadPresent (cuePacket kind 2800000) = true ∧ scrambling (cuePacket kind 2800000) = 0 ∧ 20 ≤ pay.length
      ∧ fieldAt pay 16 4 = (crc32 (pay.take 16)).toNat ∧ fieldAt pay 4 1 = kind ∧ bitAt pay 5 0 = true ∧ bitAt pay 5 1 = false)
    ∧ (let pay := payloadOf ((cuePacket 0 2800000).set 10 0x01#8); fieldAt pay 16 4 ≠ (crc32 (pay.take 16)).toNat)
    ∧ (((spliced .network .ready).channel 0).state ≠ .disabled ∧ ((spliced .network .ready).channel 0).cuePid = some 50
        ∧ (locked.channel 0).state = .disabled)
    ∧ (∀ p ∈ [2980000, 2980001], (spliced .network .loading).componentChannel (pidOf (entryPoint 200 0 p)) = some (0, 0)
        ∧ readablePts (entryPoint 200 0 p) = some (BitVec.ofNat 33 p)
        ∧ ptsAfter (BitVec.ofNat 33 p) (2800000#33 + 180000#33) = decide (p = 2980001))
    ∧ (∀ b ∈ [false, true], let w := if b then some 1900000#33 else none
        ((immediate w).channel 0).state = .armed ∧ ((immediate w).channel 0).list = []
        ∧ ((immediate w).channel 0).active.map (fun a => (a.time, a.windowBase)) = some (none, w)
        ∧ (immediate w).componentChannel 200 = some (0, 0))
    ∧ (∀ p ∈ [entryPoint 200 0 2080000, timed 200 0 2080000], pidOf p = 200 ∧ payloadStart p = true
        ∧ readablePts p = some 2080000#33)
    ∧ (randomAccess (entryPoint 200 0 2080000) = true ∧ randomAccess (timed 200 0 2080000) = false)
    ∧ (ptsAfter 2080000#33 (1900000#33 + 180000#33) = false ∧ ptsAfter 2080001#33 (1900000#33 + 180000#33) = true) :=
  ⟨by decide +kernel, by decide +kernel, by decide +kernel, by decide +kernel, by decide +kernel, by decide +kernel,
    by decide +kernel, by decide +kernel⟩

/-- O51: a cue armed for 1,900,000 at a packet before that time, at it and at the end of its window, and one unit after it; a packet of
the other component, and one of the primary without a readable PTS, the last released PTS at the end of the window and after it; and
an immediate cue without a base (R115, 6.5). -/
theorem witness_CuesAtRelease_armed :
    (let s := spliced .armed .ready;
      s.componentChannel 200 = some (0, 0) ∧ s.componentChannel 201 = some (0, 1) ∧ (s.channel 0).state = .armed
      ∧ (s.channel 0).active.map (fun a => (a.time, a.windowBase)) = some (some 1900000#33, none)
      ∧ (s.channel 0).lastPts = none ∧ (primed s 2080001).componentChannel 200 = some (0, 0)
      ∧ s.cm.find 41 = some 0 ∧ (s.cm.record 0).state = .ready)
    ∧ (∀ p ∈ [1896400, 1899999, 1900000, 2080000, 2080001], ∀ entry ∈ [true, false],
        let packet := if entry then entryPoint 200 0 p else timed 200 0 p
        pidOf packet = 200 ∧ payloadStart packet = true ∧ randomAccess packet = entry
        ∧ readablePts packet = some (BitVec.ofNat 33 p)
        ∧ ptsAtOrAfter (BitVec.ofNat 33 p) 1900000#33 = decide (1900000 ≤ p)
        ∧ ptsAfter (BitVec.ofNat 33 p) (1900000#33 + 180000#33) = decide (2080000 < p)
        ∧ ((((spliced .armed .ready).stage3 packet).1).channel 0).state =
            (if 2080000 < p then .network else if 1900000 ≤ p ∧ entry then .out else .armed))
    ∧ (readablePts (plain 200 0) = none ∧ pidOf (plain 201 0) = 201 ∧ (spliced .network .ready).componentChannel 201 = some (0, 1))
    ∧ (∀ x ∈ [2080000, 2080001], ((((primed (spliced .armed .ready) (BitVec.ofNat 33 x)).stage3 (plain 200 0)).1).channel 0).state =
        if x = 2080001 then .network else .armed)
    ∧ ((primed (immediate none) 2080001).channel 0).state = .armed
    ∧ ((primed (immediate none) 2080001).channel 0).active.map (fun a => a.time.or a.windowBase) = some none := by
  decide +kernel

/-- Channel 0 on air with the substitution of its components, a queue for each, and the forced mark. -/
def onAir (subst : Vector Substitution 4) (q : Prefetch) (forced : Bool) : State :=
  let s := spliced .out .ready
  { s with
    sc := { s.sc with
            channels := setAt s.sc.channels 0
              { s.channel 0 with
                subst
                active := (s.channel 0).active.map fun a => { a with out := a.out.map fun o => { o with forced } } } }
    cm := { s.cm with prefetch := setAt (setAt s.cm.prefetch 0 q) 1 q } }

/-- Each substitution state, at the return time 4,600,000 and one unit before it, with the forced mark and without, and with a
packet, an exhausted and an unexhausted empty queue. -/
theorem witness_SpliceOnAir :
    (∀ v ∈ [#v[Substitution.substituting, .waiting, .returned, .returned], #v[.returned, .substituting, .returned, .returned]],
      ∀ forced ∈ [true, false], ∀ q ∈ [(⟨[], none, true⟩ : Prefetch), ⟨[], some 1, false⟩, ⟨[entryPoint 1000 0 126000], none, true⟩],
      let s := onAir v q forced
      s.componentChannel 200 = some (0, 0) ∧ s.componentChannel 201 = some (0, 1) ∧ (s.channel 0).state = .out
      ∧ (s.channel 0).list = [] ∧ (s.channel 0).subst = v ∧ getAt s.cm.prefetch (componentIndex 0 1) = q
      ∧ (((s.channel 0).active.bind (·.out)).map fun o => (o.forced, o.returnTime)) = some (forced, 4600000#33)
      ∧ s.cm.find 41 = some 0 ∧ (s.cm.record 0).state = .ready)
    ∧ (pidOf (plain 200 0) = 200 ∧ payloadStart (plain 200 0) = false ∧ payloadStart (plain 201 0) = false)
    ∧ (∀ pid ∈ [200, 201], ∀ p ∈ [4599999, 4600000], pidOf (entryPoint pid 0 p) = pid ∧ payloadStart (entryPoint pid 0 p) = true
        ∧ randomAccess (entryPoint pid 0 p) = true ∧ readablePts (entryPoint pid 0 p) = some (BitVec.ofNat 33 p)
        ∧ ptsAtOrAfter (BitVec.ofNat 33 p) 4600000#33 = decide (p = 4600000)) := by decide +kernel

/-- The laws that every step keeps hold of the machine after reset, and of a busier state. -/
theorem witness_EveryStepKeeps :
    (∀ f, locked.BalancedFeed f) ∧ locked.StoreLawful ∧ locked.CadenceLeads ∧ grouped.CadenceLeads ∧ locked.QueueBounded
    ∧ locked.AlarmFollows ∧ locked.TimeInRange ∧ (withEntries locked [entry100 .pass false]).st.Consistent
    ∧ (withList (spliced .network .ready) [listed]).CueListsLawful ∧ locked.cm.StoresCanonical
    ∧ locked.cm.PagesAccounted ∧ (∀ s : State, s.pending = [] → ∃ t, step s = .next t) := by
  refine ⟨fun f => by cases f <;> rfl,
    ⟨fun f => by cases f <;> exact Nat.zero_le _, fun f => by cases f <;> decide +kernel,
      fun f => by cases f <;> exact ⟨by decide +kernel, by decide +kernel, by decide +kernel⟩⟩,
    fun f => by cases f <;> exact ⟨by decide +kernel, nofun⟩, cadenceLeads_of_grouped _ rfl rfl, Nat.zero_le _,
    rfl, ⟨by decide, by decide, by decide⟩, ⟨by decide +kernel, by decide +kernel, by decide +kernel⟩, ?_, ?_, ?_, ?_⟩
  · intro c
    exact ⟨by revert c; decide +kernel, by revert c; decide +kernel⟩
  · exact ⟨by decide +kernel, by decide +kernel⟩
  · have h : locked.cm.directory.toList.flatMap (·.pages) = [] := by decide +kernel
    have hf : locked.cm.freeList = List.range clipPages := by simp only [locked, linked, State.reset, State.atPowerOn, ClipController.atPowerOn]
    exact ⟨by rw [h, hf, List.append_nil], by decide +kernel, nofun⟩
  · intro s h
    exact ⟨s.idle, by simp [step, h]⟩

/-- Group 10, which site time has gone past, while the requested state is RUN. -/
def late : State :=
  { grouped with
    su := { grouped.su with effective := .starting, requested := .run }
    tu := { grouped.tu with time := ⟨6#32, 3⟩ } }

/-- A STOP by management with a slot due; a group start, and the late starts that TIME_SET and a taken packet let take place. -/
theorem witness_NothingButNullsUnlessRun :
    (let s := releasingAt 14 grouped.ds.rings;
      s.CadenceLeads ∧ s.su.requested ≠ .run ∧ exec .departureSlot s = .next (after .departureSlot s))
    ∧ (groupDue.CadenceLeads ∧ exec .groupStart groupDue = .next (after .groupStart groupDue))
    ∧ (late.CadenceLeads ∧ late.su.requested = .run
      ∧ exec (.timeSet fromL 7#32) late = .next (after (.timeSet fromL 7#32) late)
      ∧ exec (.packetTaken .a ⟨0, false⟩ nullPacket) late = .next (after (.packetTaken .a ⟨0, false⟩ nullPacket) late))
    ∧ (after (.packetTaken .a ⟨0, false⟩ nullPacket) late).lines.portT = some nullPacket :=
  ⟨⟨cadenceLeads_of_grouped _ rfl rfl, by decide +kernel, rfl⟩, ⟨cadenceLeads_of_grouped _ rfl rfl, rfl⟩,
    ⟨cadenceLeads_of_grouped _ rfl rfl, rfl, rfl, rfl⟩, by decide +kernel⟩

/-- A command without parameters, and some whose parameters can be cut short. -/
theorem witness_DecodeOfEncodedParams :
    (Command.statusRead).wellFormed = true ∧ (Command.traceConfigure ⟨[0, 13], 7, 1, 1, 25⟩).wellFormed = true
    ∧ (Command.channelSet ⟨3, 0, 8190, [1, 2, 3, 4]⟩).wellFormed = true
    ∧ 11 < (encodeParams (.channelSet ⟨3, 0, 8190, [1, 2, 3, 4]⟩)).length := by decide +kernel

/-- A packet on PID 8180 whose command has a code and parameters. -/
def codedPacket (code : Byte) (parameters : List Byte) : Packet :=
  pad ([0x47#8, 0x1F#8, 0xF4#8, 0x10#8] ++ withCrc
    ([0xFF#8, 0xFF#8, code, 7#8] ++ toBytes 1 parameters.length ++ parameters))

/-- The packet is on PID 8180 and passes the test of form and CRC (R187). -/
abbrev InForm (p : Packet) : Prop :=
  pidOf p = 8180 ∧ transportError p = false ∧ payloadPresent p = true ∧ scrambling p = 0 ∧ fieldAt (payloadOf p) 4 1 ≤ 170
    ∧ 9 + fieldAt (payloadOf p) 4 1 ≤ (payloadOf p).length
    ∧ fieldAt (payloadOf p) (5 + fieldAt (payloadOf p) 4 1) 4 =
        (crc32 ((payloadOf p).take (5 + fieldAt (payloadOf p) 4 1))).toNat

/-- Port L LOCKED and a command in good form; a damaged CRC; an address that is not the unit's; a code outside the catalogue; a class
that the mask does not hold; RATE_SET one byte short; one that passes, with a byte more than it needs; and the parameter length at 170 and at 171. -/
theorem witness_CommandPacketIsItsCommand :
    (locked.lines.resetHeld = false ∧ (locked.framer .l).link = .locked ∧ locked.mu.restartPending = false
      ∧ (after (.restart fromL) locked).mu.restartPending = true)
    ∧ (∀ p ∈ [commandPacket 17 7#8 .statusRead, codedPacket 0x99#8 [], codedPacket 0x63#8 [], codedPacket 0x12#8 (List.replicate 6 0#8)],
        InForm p)
    ∧ InForm (codedPacket 0x60#8 [0#8])
    ∧ (fieldAt (payloadOf (codedPacket 0x60#8 (List.replicate 170 0#8))) 4 1 = 170
      ∧ (payloadOf (codedPacket 0x60#8 (List.replicate 170 0#8))).length = 184
      ∧ fieldAt (payloadOf (codedPacket 0x60#8 (List.replicate 171 0#8))) 4 1 = 171)
    ∧ (let pay := payloadOf ((codedPacket 0x60#8 []).set 6 0x61#8)
      fieldAt pay (5 + fieldAt pay 4 1) 4 ≠ (crc32 (pay.take (5 + fieldAt pay 4 1))).toNat)
    ∧ (fieldAt (payloadOf (commandPacket 17 7#8 .statusRead)) 0 2 = 17 ∧ locked.mu.unitAddress = 0#12 ∧ locked.mu.group0 = 0
      ∧ locked.mu.group1 = 0 ∧ fieldAt (payloadOf (codedPacket 0x99#8 [])) 0 2 = 65535)
    ∧ (classOfCode 0x99#8 = none ∧ classOfCode 0x63#8 = some .site ∧ locked.mu.allows .feed .site = false
      ∧ classOfCode 0x12#8 = some .timing ∧ locked.mu.allows .feed .timing = true
      ∧ decodeParams 0x12#8 (List.replicate 6 0#8) = none ∧ decodeParams 0x60#8 [0#8] = some .statusRead)
    ∧ ((Command.statusRead).wellFormed = true ∧ 65535 < 65536 ∧ (encodeParams .statusRead).length ≤ 170
      ∧ (after (.addressWrite fromL 9 65534) locked).mu.group0 = 9 ∧ (after (.addressWrite fromL 9 65534) locked).mu.group1 = 65534
      ∧ (State.atPowerOn 4095#12 ⟨true, true, true⟩ true).mu.unitAddress.toNat = 4095) :=
  ⟨by decide +kernel, by decide +kernel, by decide +kernel, by decide +kernel, by decide +kernel, by decide +kernel,
    by decide +kernel, by decide +kernel⟩

/-! ### Witnesses of the clauses that pin the operations the statements name -/

/-- The record of group 10 that both tables of `grouped` hold. -/
theorem mayStart_grouped : (recordOf 10#16 ⟨5#32, 0⟩).MayStart grouped.re.lastStarted :=
  ⟨rfl, by decide, fun n h => by cases h; decide⟩

theorem governs_grouped : grouped.Governs 10#16 .a (recordOf 10#16 ⟨5#32, 0⟩) := ⟨rfl, mayStart_grouped, fun h => absurd rfl h⟩

/-- In `grouped`, whatever the site time, the candidate's release time is 5 s 0 and no other. -/
theorem startsAt_grouped (s : State) (h1 : s.re = grouped.re) (h2 : s.ds = grouped.ds) (T : SiteTime) :
    s.StartsAt T ↔ T = ⟨5#32, 0⟩ := by
  have hr : ∀ f n, s.record? f n = grouped.record? f n := fun f n => by simp [State.record?, State.table, h2]
  have hg : ∀ f n r, s.Governs n f r ↔ grouped.Governs n f r := fun f n r => by simp only [State.Governs, hr, h1]
  constructor
  · rintro ⟨n, f, r, hn, hgov, rfl⟩
    rw [h1] at hn
    cases hn
    have := ((hg f _ r).1 hgov).1
    cases f <;> (cases this; rfl)
  · rintro rfl
    exact ⟨10#16, .a, _, by rw [h1]; rfl, (hg _ _ _).2 governs_grouped, rfl⟩

/-- A start is due at 5 s 0 and not one tick before, and late one tick after and not at 5 s 0. -/
theorem startDue_boundaries :
    groupDue.StartDue ∧ ¬ grouped.StartDue ∧ ¬ groupDue.StartLate ∧ late.StartLate ∧ late.TablesBounded
    ∧ State.StartLate { grouped with tu := { grouped.tu with time := ⟨5#32, 1⟩ } } := by
  refine ⟨⟨rfl, by decide, ⟨5#32, 0⟩, (startsAt_grouped _ rfl rfl _).2 rfl, by decide +kernel⟩, ?_, ?_,
    ⟨rfl, by decide, ⟨5#32, 0⟩, (startsAt_grouped _ rfl rfl _).2 rfl, by decide +kernel⟩, fun f => by cases f <;> decide,
    ⟨rfl, by decide, ⟨5#32, 0⟩, (startsAt_grouped _ rfl rfl _).2 rfl, by decide +kernel⟩⟩
  · rintro ⟨-, -, T, hT, h⟩
    rw [startsAt_grouped _ rfl rfl] at hT
    subst hT
    revert h
    decide +kernel
  · rintro ⟨-, -, T, hT, h⟩
    rw [startsAt_grouped groupDue rfl rfl] at hT
    subst hT
    revert h
    decide +kernel

/-- O16: a start that is not late, and one that is. -/
theorem witness_GroupStart_settle :
    ¬ groupDue.StartLate ∧ (late.lines.resetHeld = false ∧ late.TablesBounded ∧ late.StartLate) :=
  ⟨startDue_boundaries.2.2.1, rfl, startDue_boundaries.2.2.2.2.1, startDue_boundaries.2.2.2.1⟩

/-- O2: a holdover second whose last local tick has passed, and one with a tick to go; a warm restart whose reply has left port M, and
one whose reply has not; and a state with neither. -/
theorem witness_IdleBlock_due :
    (holdover 27000001 .holdover).tu.HoldSecondOver ∧ ¬ (holdover 27000000 .holdover).tu.HoldSecondOver
    ∧ (¬ restarting.tu.HoldSecondOver ∧ restarting.mu.restartPending = true ∧ restarting.mu.queue = [])
    ∧ (¬ groupDue.tu.HoldSecondOver ∧ ¬ (groupDue.mu.restartPending = true ∧ groupDue.mu.queue = [])
      ∧ groupDue.EventDue .groupStart)
    ∧ (grouped.EventDue .groupStart → False)
    ∧ State.EventDue (releasingAt 14 ⟨ringNone, ringNone⟩) (.departureSlot) := by
  refine ⟨⟨.inl rfl, _, rfl, by decide⟩, ?_, ⟨?_, rfl, rfl⟩, ⟨?_, by decide, startDue_boundaries.1⟩, startDue_boundaries.2.1,
    ⟨?_, ⟨5#32, 0⟩, rfl, by decide +kernel⟩⟩
  · rintro ⟨-, h, hh, hp⟩
    cases hh
    revert hp
    decide
  · rintro ⟨-, h, hh, -⟩
    cases hh
  · rintro ⟨-, h, hh, -⟩
    cases hh
  · rintro ⟨-, -, T, ⟨n, f, r, hn, -⟩, -⟩
    cases hn

/-- Feed A LOST and selected with B LOCKED; the revertive policy on with B selected and A, preferred, about to lock, the revert timer
stopped or running; and A in BRIDGING. -/
def feeds (a b : Link) (re : ReleaseEngine) : State :=
  { locked with
    fi := { locked.fi with framers := ⟨framerIn a true none, framerIn b true none, framerIn .locked true none⟩ }
    re }

def revertive (selected : Feed) (timer : Option SiteTime) : ReleaseEngine :=
  { locked.re with revertive := true, preferred := .a, selected, revertTimer := timer }

/-- The state in which the framer of A has become `x`. -/
def becomes (s : State) (x : Framer) : State :=
  (State.linkChanged { s with fi := { s.fi with framers := s.fi.framers.set .a x } })

/-- O8: what the link states make of changeover and revert, at a change of port A's. -/
theorem witness_LockAndSyncError_links :
    ((feeds .lost .locked locked.re).ChangeoverLinks ∧ ¬ (feeds .bridging .locked locked.re).ChangeoverLinks
      ∧ (feeds .absent .locked locked.re).ChangeoverLinks ∧ ¬ (feeds .lost .bridging locked.re).ChangeoverLinks)
    ∧ (∀ timer ∈ [none, some (⟨1#32, 0⟩ : SiteTime)], ∀ l ∈ [Link.locked, .bridging],
        let s := feeds .searching .locked (revertive .b timer)
        let t := becomes s (framerIn l true none)
        t.fi = { s.fi with framers := s.fi.framers.set .a (framerIn l true none) }
        ∧ t.re = { s.re with
                   changeoverPending := decide t.ChangeoverLinks
                   revertTimer := if t.RevertLinks then s.re.revertTimer.or (some s.tu.time) else none
                   revertPending := decide t.RevertLinks && s.re.revertPending }
        ∧ (t.RevertLinks ↔ l = .locked))
    ∧ Port.a ≠ .l := by
  refine ⟨by decide +kernel, ?_, by decide⟩
  decide +kernel

/-- O19: number 10 where it follows the last started, where it does not and is open, where nothing is, and where nothing has been
started, the arrivals lying within half the range of the seconds. -/
theorem witness_PassedAndStaleRecords_candidate :
    (∃ f, ∃ r ∈ State.table { grouped with re := { grouped.re with lastStarted := some 9#16 } } f,
        r.MayStart (some 9#16) ∧ r.number = 9#16 + 1)
    ∧ ((∀ f, ∀ r ∈ grouped.table f, r.number ≠ 7#16 + 1)
      ∧ ∃ f, ∃ r ∈ grouped.table f, r.MayStart grouped.re.lastStarted ∧ 0 < siteDiff r.release grouped.tu.time)
    ∧ (∀ f, locked.table f = [])
    ∧ (∀ f, ∀ r ∈ grouped.table f, r.arrival.tick < 27000000 ∧ (r.arrival.sec - 0#32).toNat < 2 ^ 31)
    ∧ (groupDue.StartDue ∧ ¬ grouped.StartDue) := by
  refine ⟨⟨.a, recordOf 10#16 ⟨5#32, 0⟩, by decide +kernel, ⟨rfl, by decide, fun n h => by cases h; decide⟩, rfl⟩,
    ⟨fun f => by cases f <;> decide +kernel, .a, recordOf 10#16 ⟨5#32, 0⟩, by decide +kernel, mayStart_grouped, by decide +kernel⟩,
    fun f => by cases f <;> rfl, fun f => by cases f <;> decide +kernel, startDue_boundaries.1, startDue_boundaries.2.1⟩

/-- O22: positions 14 and 15, the last, held by the record or by the twin alone; and a MODE_SET released, which ends the release. -/
theorem witness_SfnSlot_stages :
    (∀ k ∈ [14, 15], (releasingAt k ⟨ringWith nullPacket k, ringNone⟩).holder .a 10#16 k = some (slotAt 0 nullPacket 10#16 k)
      ∧ (releasingAt k ⟨ringNone, ringWith nullPacket k⟩).holder .a 10#16 k = none
      ∧ (releasingAt k ⟨ringNone, ringWith nullPacket k⟩).holder .b 10#16 k = some (slotAt 0 nullPacket 10#16 k)
      ∧ ((releasingAt k ⟨ringNone, ringWith nullPacket k⟩).record? .b 10#16).map (fun w => (w.length, w.verdict)) = some (16, .onTime))
    ∧ (∀ k ∈ [14, 15], ∀ f h, ((releasingAt k ((⟨ringNone, ringNone⟩ : PerFeed Ring).set f (ringWith nullPacket k))).ring h).slots.all
        (fun x => x.index < 1) = true)
    ∧ (let s := after (.authorityWrite fromL 63) (releasingAt 14 ⟨ringNone, ringNone⟩)
      (s.stages ⟨5#32, 0⟩ ⟨0#32, 0⟩ (commandPacket 65535 7#8 (.modeSet 1))).1.re.releasing = none) := by
  refine ⟨by decide +kernel, fun k hk f h => ?_, by decide +kernel⟩
  simp only [List.mem_cons, List.not_mem_nil, or_false] at hk
  rcases hk with rfl | rfl <;> cases f <;> cases h <;> decide +kernel

/-- O25: a component's packet with an entry, its channel in NETWORK (it passes stage 3), and on air with an exhausted queue (a null
packet leaves stage 3); under DROP; and without an entry. -/
theorem witness_StreamTableAtRelease_stage3 :
    (∀ a ∈ [Action.pass, .drop], (withEntries (spliced .network .ready) [{ entry100 a true with inPid := 200 }]).st.entry?
        (pidOf (plain 200 3)) = some { entry100 a true with inPid := 200 })
    ∧ ((withEntries (spliced .network .ready) [{ entry100 .pass true with inPid := 200 }]).stage3 (plain 200 3)).2 = .packet (plain 200 3)
    ∧ ((onAir #v[.substituting, .waiting, .returned, .returned] ⟨[], none, true⟩ false).stage3 (plain 200 3)).2 = .null
    ∧ ((onAir #v[.substituting, .waiting, .returned, .returned] ⟨[entryPoint 1000 0 126000], none, true⟩ false).stage3
        (plain 200 3)).2 ≠ .packet (plain 200 3)
    ∧ ((spliced .network .ready).st.entry? 200 = none ∧ (spliced .network .ready).st.default = .pass
      ∧ (spliced .network .ready).st.entries = []) := by
  decide +kernel

/-- Cues for clips 41 and 42: one whose window has ended at 2,080,001 and not at 2,080,000, an immediate one, and a later one. -/
def cues (first : Nat) : List ListedCue :=
  [{ listed with event := 20, clip := first, time := some 1900000#33 }, { listed with event := 21, time := none }, listed]

/-- O50 to O52: channels with cues listed, at the end of the first cue's window and one unit after it, where the head changes. -/
theorem witness_cues_listed :
    (∀ s ∈ [spliced .armed .ready, spliced .network .ready, immediate (some 1900000#33),
            onAir #v[.substituting, .returned, .returned, .returned] ⟨[], none, true⟩ false],
      (((withList s (cues 42)).channel 0).list = cues 42 ∧ (withList s (cues 42)).componentChannel 200 = some (0, 0)
        ∧ ((withList s (cues 42)).channel 0).state = (s.channel 0).state))
    ∧ (∀ p ∈ [2080000, 2080001], ((cues 42).countP fun q =>
        (q.time.or q.windowBase).any fun b => ptsAfter (BitVec.ofNat 33 p) (b + 180000#33)) = if p = 2080001 then 1 else 0)
    ∧ ((withList (spliced .network .ready) (cues 42)).cm.findReady 41 = some 0
      ∧ (withList (spliced .network .ready) (cues 42)).cm.findReady 42 = none
      ∧ ((cues 42).head?.map (·.event) ≠ ((cues 42).drop 1).head?.map (·.event)))
    ∧ (∀ x, cues 42 = x :: (cues 42).drop 1 → (withList (spliced .network .ready) (cues 42)).cm.findReady x.clip = none) := by
  refine ⟨by decide +kernel, by decide +kernel, by decide +kernel, fun x h => ?_⟩
  cases h
  decide +kernel

/-- O15: a packet is stored at the place of position 1 of a load whose tags hold its neighbours', 0 and 7, which stand. -/
theorem witness_PortLPacket_tags :
    let s := { loading .opened 1 [] with cm := { (loading .opened 1 []).cm with tags := [(0, 3), (7, 2)] } }
    let u := after (.packetTaken .l ⟨0, false⟩ (plain 1001 0)) s
    ((s.cm.record 0).count < (s.cm.record 0).declared ∧ (u.cm.record 0).placeOf 1 = some 1 ∧ Memory.read u.cm.tags 1 = some 1)
    ∧ ∀ b ∈ [0, 7], (u.cm.record 0).placeOf 1 ≠ some b ∧ Memory.read s.cm.tags b ≠ none := by
  decide +kernel

/-- In LOCKED with a history of `n` counts, the pulse captured at `tick`. -/
def lockedWith (n tick : Nat) : State :=
  { reference .locked ⟨8#32, tick⟩ 27000000 with
    tu := { (reference .locked ⟨8#32, tick⟩ 27000000).tu with history := List.replicate n 27000003 } }

/-- O28: a phase fault of 28 ticks either way with a history too short to compute from, and with one just long enough. -/
theorem witness_GoodPulseInLocked_phaseFault :
    (∀ n t, (lockedWith n t).tu.PulseGood)
    ∧ (∀ n ∈ [0, 3, 4, 16], ∀ t ∈ [28, 26999972], (lockedWith n t).lines.resetHeld = false ∧ (lockedWith n t).tu.ref = .locked
      ∧ (lockedWith n t).tu.lastTimeValue = some 9#32 ∧ (lockedWith n t).tu.lastPulse = some ⟨0, some 8#32⟩
      ∧ (after .ppsPulse (lockedWith n t)).tu.ref = .holdover
      ∧ (after .ppsPulse (lockedWith n t)).tu.hold = if n < 4 then ⟨27000000, 0, 1, 0⟩ else ⟨27000003, 0, n, 0⟩) :=
  ⟨fun n t => pulseGood_reference .locked ⟨8#32, t⟩ 27000000 (by decide) (by decide), by decide +kernel⟩

/-- A flag clear and unmasked before a queue of `n` packets, with or without a restart pending. -/
def notifying (n : Nat) (pending : Bool) : State :=
  { linked State.reset .searching true none with
    su := { State.reset.su with unmasked := 0x3FFFFFF#26 }
    mu := { (queued n).mu with restartPending := pending } }

/-- FlagRaised and RaisedFrom, in O6 to O10, O12, O13, O23, O25, O28 to O33, O35, O44, O47 to O52 and O60: a notice is queued below 64
packets, dropped at 64 and while a restart is pending, and not made of a flag that is masked or set. -/
theorem witness_notices :
    (∀ n ∈ [0, 63, 64], ∀ p ∈ [true, false], (notifying n p).su.Notifies .feedALocked ∧ (notifying n p).mu.queue.length = n
      ∧ (after (.lockAcquired .a) (notifying n p)).mu.queue =
          (notifying n p).mu.queue ++ (if p = false ∧ n < 64 then
            [⟨.notice, noticePacket 0#12 EventFlag.feedALocked.number State.reset.tu.time⟩] else [])
      ∧ (after (.lockAcquired .a) (notifying n p)).mu.counters.noticesDropped = if p = false ∧ n < 64 then 0 else 1)
    ∧ ¬ State.reset.su.Notifies .feedALocked
    ∧ ¬ Supervision.Notifies { (notifying 0 false).su with flags := EventFlag.feedALocked.bit } .feedALocked := by
  decide +kernel

/-- O41: the bytes of the notice of flag 3 at 7 s 9 from unit 0x805, its CRC apart. -/
theorem test_notice_bytes :
    (noticePacket 0x805#12 3 ⟨7#32, 9⟩).take 16 =
      [0x47#8, 0x5F#8, 0xF6#8, 0x10#8, 0x02#8, 0x08#8, 0x05#8, 0x03#8, 0#8, 0#8, 0#8, 7#8, 0#8, 0#8, 0#8, 9#8]
    ∧ (noticePacket 0x805#12 3 ⟨7#32, 9⟩).drop 20 = List.replicate 168 0xFF#8 := by decide +kernel

/-- A packet whose adaptation field of `n` bytes carries a clock reference, its payload beginning as a header with a PTS, and with a
DTS where `flags` is 0xC0. -/
def stamped (n : Nat) (flags : Byte) : Packet :=
  pad (([0x47#8, 0x40#8, 0x64#8, 0x30#8, BitVec.ofNat 8 n, 0x50#8] ++ List.replicate (n - 1) 0x5A#8
    ++ [0#8, 0#8, 1#8, 0xE0#8, 0#8, 0#8, 0x80#8, flags, 10#8] ++ pts5 8589900000 ++ pts5 126000).take 188)

/-- O50: no PTS, a PTS alone, a PTS and a DTS; no clock reference, and one in a field of 7 bytes, in one that fills the packet (183) and
in one that runs past it (184). -/
theorem witness_SpliceOutPoint_bytes :
    (¬ HasPts (plain 100 0) ∧ ¬ HasClock (plain 100 0) ∧ HasPts (stamped 7 0x80#8) ∧ ¬ HasDts (stamped 7 0x80#8)
      ∧ HasDts (stamped 7 0xC0#8))
    ∧ (∀ n ∈ [7, 160, 183, 184], (stamped n 0xC0#8).length = 188 ∧ HasClock (stamped n 0xC0#8) ∧ payloadAt (stamped n 0xC0#8) = 5 + n)
    ∧ ¬ HasClock (stamped 6 0xC0#8) ∧ ¬ HasPts (stamped 183 0xC0#8)
    ∧ (let y := (rebase (stamped 7 0xC0#8) 8589774000#33).1
      stampAt (stamped 7 0xC0#8) 21 = 8589900000 ∧ stampAt y 21 = 8589739408 ∧ stampAt y 26 = 8589900000)
    ∧ (let y := stuffClock (stamped 8 0x80#8)
      byteAt y 5 = 0x40#8 ∧ (y.drop 6).take 8 = 0x5A#8 :: List.replicate 6 0xFF#8 ++ [0#8]) :=
  ⟨by decide +kernel, by decide +kernel, by decide +kernel, by decide +kernel, by decide +kernel, by decide +kernel⟩

/-- O25: the shortest packets the two clauses speak of, and the greatest PID, count and clock reference. -/
theorem witness_StreamTableAtRelease_bytes :
    (4 ≤ (nullPacket.take 4).length ∧ 12 ≤ ((stamped 7 0x80#8).take 12).length ∧ 8191 < 8192
      ∧ 2 ^ 33 * 300 - 1 < 2 ^ 33 * 300)
    ∧ (let y := setContinuity (setPid (plain 100 3) 8191) 15#4; pidOf y = 8191 ∧ continuityOf y = 15#4)
    ∧ clockOf (setClock (stamped 7 0x80#8) (2 ^ 33 * 300 - 1)) = 2 ^ 33 * 300 - 1 := by decide +kernel

/-- O60: rows of both sources and their commands, TIME_SET among them with a start it makes late; no event of the part has one. -/
theorem witness_CommandPacketIsItsCommand_rows :
    (Instr.command? (.timeSet fromL 7#32) = some (.timeSet 7#32) ∧ Instr.header? (.timeSet fromL 7#32) = some fromL
      ∧ late.lines.resetHeld = false ∧ late.StartLate)
    ∧ (Instr.command? (.statusRead fromFeed) = some .statusRead ∧ Instr.header? (.statusRead fromFeed) = some fromFeed)
    ∧ Instr.command? .ppsPulse = none ∧ Instr.header? .ppsPulse = none :=
  ⟨⟨rfl, rfl, rfl, startDue_boundaries.2.2.2.1⟩, ⟨rfl, rfl⟩, rfl, rfl⟩

/-- `groupDue` with group 9 open beside it in feed A and group 11 in B, their T at 5 s 0, and group 13 in A, its T one tick later. -/
def groupDueOthers : State :=
  { groupDue with
    fi := { groupDue.fi with openGroups := ⟨some ⟨9#16, 1⟩, some ⟨11#16, 1⟩⟩ }
    ds := { groupDue.ds with
            rings := ⟨⟨[slotAt 0 (cadence 10 16 ⟨5#32, 0⟩) 10#16 0, slotAt 1 (cadence 9 16 ⟨5#32, 0⟩) 9#16 0], 2⟩,
                      ⟨[slotAt 0 (cadence 11 16 ⟨5#32, 0⟩) 11#16 0], 1⟩⟩
            tables := ⟨[recordOf 9#16 ⟨5#32, 0⟩, recordOf 10#16 ⟨5#32, 0⟩, recordOf 13#16 ⟨5#32, 1⟩],
                       [recordOf 11#16 ⟨5#32, 0⟩, recordOf 10#16 ⟨5#32, 0⟩]⟩ } }

/-- O16: the start of group 10 passes groups 9 and 11, not 13 nor 10 itself; the HELD slot of each is EMPTY and counted. -/
theorem witness_GroupStart_passes :
    groupDueOthers.StartsGroup 10#16 .a (recordOf 10#16 ⟨5#32, 0⟩)
    ∧ (groupDueOthers.StartDue ∧ groupDueOthers.Governs 10#16 .a (recordOf 10#16 ⟨5#32, 0⟩)
      ∧ ∀ h, ((groupDueOthers.table h).map (·.number)).Nodup)
    ∧ (∀ m ∈ [9#16, 11#16], groupDueOthers.PassedAt 10#16 ⟨5#32, 0⟩ (recordOf m ⟨5#32, 0⟩))
    ∧ ¬ groupDueOthers.PassedAt 10#16 ⟨5#32, 0⟩ (recordOf 13#16 ⟨5#32, 1⟩)
    ∧ ¬ groupDueOthers.PassedAt 10#16 ⟨5#32, 0⟩ (recordOf 10#16 ⟨5#32, 0⟩)
    ∧ (let t := after .groupStart groupDueOthers
      t.re.counters.passedGroups = 2 ∧ t.record? .a 9#16 = none ∧ t.record? .b 11#16 = none ∧ (t.record? .a 13#16).isSome = true
      ∧ (t.ds.accounts.get .a).discarded = 1 ∧ (t.ds.accounts.get .b).discarded = 1) := by
  have starts : groupDueOthers.StartsGroup 10#16 .a (recordOf 10#16 ⟨5#32, 0⟩) :=
    ⟨rfl, rfl, rfl, rfl, by decide +kernel, by decide +kernel, by decide,
      fun f => by cases f <;> exact ⟨by decide +kernel, fun g h => by cases h; decide⟩, rfl, rfl, nofun⟩
  have governs : groupDueOthers.Governs 10#16 .a (recordOf 10#16 ⟨5#32, 0⟩) :=
    ⟨by decide +kernel, mayStart_grouped, fun h => absurd rfl h⟩
  refine ⟨starts, ⟨⟨rfl, by decide, ⟨5#32, 0⟩, ⟨10#16, .a, _, rfl, governs, rfl⟩, by decide +kernel⟩, governs,
    fun h => by cases h <;> decide +kernel⟩, ?_, ?_, fun h => h.2.1 rfl, by decide +kernel⟩
  · intro m hm
    simp only [List.mem_cons, List.not_mem_nil, or_false] at hm
    rcases hm with rfl | rfl <;>
      exact ⟨⟨rfl, by decide, fun n h => by cases h; decide⟩, by decide, by decide +kernel, nofun⟩
  · rintro ⟨-, -, h, -⟩
    revert h
    decide +kernel

/-- O50 to O52: a count of misses beyond what a counter holds, which no run reaches, stands where no cue is late. -/
theorem test_countTimes : countTimes 4294967296 0 = 4294967296 ∧ countTimes 4294967294 2 = 4294967295 ∧ countTimes 3 1 = count 3 := by
  decide

/-- O49: CLIP_LOAD_END of a load with an empty buffer, CLIP_LOADED unmasked: the reply is queued first, the notice behind it, the
record READY and the channel in NETWORK that lists the clip ARMED (R138); with a packet in the buffer the load drains. -/
theorem test_load_complete_behind_reply :
    (let s : State := withList { loading .opened 2 [] with sc := (spliced .network .ready).sc } (cues 41)
      let t := after (.clipLoadEnd fromL 41)
        { s with su := { s.su with unmasked := EventFlag.clipLoaded.bit } }
      t.mu.queue.map (·.kind) = [.reply, .notice] ∧ (t.cm.record 0).state = .ready ∧ t.cm.load.state = .closed
        ∧ (t.channel 0).state = .armed ∧ (t.cm.record 0).use = 1)
    ∧ (let t := after (.clipLoadEnd fromL 41) (loading .opened 2 [⟨0, nullPacket⟩])
      (t.cm.record 0).state = .loading ∧ t.cm.load.state = .draining ∧ t.mu.queue.map (·.kind) = [.reply]) := by
  decide +kernel

/-- Log entry 44: in QUALIFYING on basis FREE the expiry and then the pulse of one instant: the pulse is not judged. -/
theorem test_pulse_behind_missing_pulse :
    (after .ppsPulse (reference (.qualifying .free) ⟨8#32, 0⟩ 29700000)).tu.counters.badCount = 1
    ∧ (let t := run (reference (.qualifying .free) ⟨8#32, 0⟩ 29700000) [.missingPulseTimerExpiry, .ppsPulse]
      t.tu.ref = .qualifying .free ∧ t.tu.run = 0 ∧ t.tu.counters.missing = 1 ∧ t.tu.counters.badCount = 0) := by decide +kernel

/-! ### The worked cases of spec/ -/

/-- 3.1, release times: a carry upward, downward, across the seconds' wrap, and the extremes of the offset. -/
theorem test_release_times :
    addTicks ⟨1000#32, 26990000⟩ 15000 = ⟨1001#32, 5000⟩ ∧ addTicks ⟨1000#32, 10000⟩ (-15000) = ⟨999#32, 26995000⟩
    ∧ addTicks ⟨4294967295#32, 26990000⟩ 15000 = ⟨0#32, 5000⟩ ∧ addTicks ⟨5#32, 26999999⟩ 27000000 = ⟨6#32, 26999999⟩
    ∧ addTicks ⟨5#32, 0⟩ (-27000000) = ⟨4#32, 0⟩ := by decide +kernel

/-- 3.1, the window table. -/
theorem test_windows :
    verdictOf ⟨1001#32, 5000⟩ ⟨1000#32, 20000000⟩ = .onTime ∧ verdictOf ⟨1001#32, 20000⟩ ⟨1000#32, 10000⟩ = .early
    ∧ verdictOf ⟨999#32, 26995000⟩ ⟨1000#32, 0⟩ = .late ∧ verdictOf ⟨0#32, 5000⟩ ⟨4294967295#32, 26000000⟩ = .onTime := by
  decide +kernel

/-- 3.2, the pacer at 22,000,000 b/s: the slot starts of slots 0 to 11. -/
theorem test_pacer_22 :
    (List.range 12).map (fun k => Pacer.ticksTo k (pacerFor 22000000))
      = [0, 1845, 3691, 5537, 7383, 9229, 11074, 12920, 14766, 16612, 18458, 20304] := by decide +kernel

/-- 4.4, holdover second lengths of a fast oscillator, and of a slow one with a short history. -/
theorem test_holdover_lengths :
    (List.range 5).map (fun k => HoldLength.ticksOver k (holdLengthOf (List.replicate 8 27000011 ++ List.replicate 8 27000012)))
      = [0, 27000011, 54000023, 81000034, 108000046]
    ∧ (List.range 6).map (fun k =>
        HoldLength.ticksOver k (holdLengthOf [26999997, 26999997, 26999997, 26999998, 26999998]))
      = [0, 26999997, 53999994, 80999992, 107999989, 134999987] := by decide +kernel

/-- 3.10, a clock correction of 12,345 across the wrap: base 15, extension 245. -/
def clockPacket (base extension : Nat) : Packet :=
  pad ([0x47#8, 0x00#8, 0x64#8, 0x33#8, 0x07#8, 0x10#8] ++ toBytes 6 (base * 2 ^ 15 + 63 * 2 ^ 9 + extension))

theorem test_clock_wrap :
    clockOf (clockPacket 8589934566 200) = 2576980370000
    ∧ setClock (clockPacket 8589934566 200) ((2576980370000 + 12345) % (2 ^ 33 * 300)) = clockPacket 15 245 := by decide +kernel

/-- 6.1, a splice time across the wrap. -/
theorem test_splice_time_wrap :
    ptsAtOrAfter 2000#33 8589930000#33 = true ∧ 8589930000#33 + 180000#33 = 175408#33 ∧ ptsAfter 2000#33 175408#33 = false := by
  decide +kernel

/-- 6.5, the forced-return time, planned and after an IN. -/
theorem test_forced_return_time :
    forcedReturnTime 4603600#33 1903600#33 ⟨5000#32, 20000000⟩ = ⟨5032#32, 20000000⟩
    ∧ forcedReturnTime 3000000#33 1903600#33 ⟨5000#32, 20000000⟩ = ⟨5014#32, 24920000⟩ := by decide +kernel

/-- 8.4, rebasing across the wrap, on the PTS of a packet. -/
theorem test_rebase_wrap :
    (8589900000#33 - 126000#33 = 8589774000#33)
    ∧ readablePts (rebase (entryPoint 1000 0 126000) 8589774000#33).1 = some 8589900000#33
    ∧ readablePts (rebase (entryPoint 1000 0 300000) 8589774000#33).1 = some 139408#33 := by decide +kernel

/-- R3: settings 0, 1, 200 and 201. -/
theorem test_bridging_interval :
    [0, 1, 200, 201].map bridgingInterval = [5400000, 270000, 54000000, 54000000] := by decide

/-! ### Commands as packets, and one step each -/

/-- A STATUS_READ to the unit's group 9 taken at port L queues a reply: 0x60, tag 7, DONE, the unit's address 0 (R190, 11.6). -/
theorem test_status_read_packet :
    let s := after (.packetTaken .l ⟨0, false⟩ (commandPacket 65535 7#8 .statusRead)) locked
    s.mu.counters.acceptedPortL = 1 ∧ s.mu.queue.length = 1
      ∧ (s.mu.queue.map fun x => x.packet.take 10) =
          [[0x47#8, 0x5F#8, 0xF6#8, 0x10#8, 0x01#8, 0x00#8, 0x00#8, 0x07#8, 0x60#8, 0x00#8]] := by decide +kernel

/-- The parameters of RATE_SET 22,000,000 AT CADENCE 300, byte by byte (11.6). -/
theorem test_rate_set_bytes :
    decodeParams 0x12#8 [0x01#8, 0x4F#8, 0xB1#8, 0x80#8, 0x01#8, 0x01#8, 0x2C#8] = some (.rateSet 22000000 ⟨1, 300#16⟩) := by
  decide +kernel

/-- A damaged CRC is counted and executes nothing (R187). -/
theorem test_crc_failure :
    let s := after (.packetTaken .l ⟨0, false⟩ ((commandPacket 65535 7#8 .statusRead).set 6 0x61#8)) locked
    s.mu.counters.crcFailures = 1 ∧ s.mu.queue = [] := by decide +kernel

/-- R2: the third bad sync byte in a row makes a LOCKED framer enter BRIDGING. -/
theorem test_third_sync_error :
    [1, 2, 3].map (fun n => ((run locked (List.replicate n (.syncError .a))).framer .a).link) = [.locked, .locked, .bridging] := by
  decide +kernel

/-- R7, R75: a sync byte 3 ticks ago, after a step of 10 ticks and before it; 5 ticks ago it was the second before. -/
theorem test_arrival_stamp :
    let s := { locked with tu := { locked.tu with time := ⟨5#32, 4⟩, lastStep := 10 } }
    s.arrivalStamp ⟨3, false⟩ = ⟨5#32, 1⟩ ∧ s.arrivalStamp ⟨3, true⟩ = ⟨4#32, 26999991⟩
      ∧ s.arrivalStamp ⟨5, false⟩ = ⟨4#32, 26999999⟩ := by decide +kernel

/-- R12, R14: a group of sixteen opens with its cadence packet, and its last position makes it COMPLETE. -/
theorem test_group_complete :
    let s := run { locked with tu := { locked.tu with time := ⟨4#32, 0⟩ } } (.packetTaken .a ⟨0, false⟩ (cadence 10 16 ⟨5#32, 0⟩)
      :: List.replicate 15 (.packetTaken .a ⟨0, false⟩ (plain 100 0)))
    (s.table .a).map (fun r => (r.state, r.received, r.verdict)) = [(.complete, 16, .onTime)]
      ∧ s.fi.openGroups.a = none ∧ s.re.candidate = some 10#16 ∧ (s.ring .a).writeIndex = 16 := by decide +kernel

/-- R74, R82: the fourth good pulse in a row locks; the first rate and the lock let the gate leave STOPPED (R162, R163). -/
theorem test_lock_opens_gate :
    let s := run (reference (.qualifying .free) ⟨8#32, 26999990⟩ 27000000) [.rateSet fromL 22000000 ⟨0, 0#16⟩, .ppsPulse]
    s.tu.ref = .locked ∧ s.tu.time = ⟨9#32, 0⟩ ∧ s.tu.lastStep = 10 ∧ s.su.requested = .run ∧ s.su.effective = .starting := by
  decide +kernel

/-- R92: PASS to PID 300 with continuity managed: the last output count was 5, so 6 goes out. -/
theorem test_stream_table_pass :
    ((withEntries locked [entry100 .pass false]).stages ⟨0#32, 0⟩ ⟨0#32, 0⟩ (plain 100 3)).2 = plain 300 6 := by decide +kernel

/-- R43: with no entry the default action DROP gives a null packet. -/
theorem test_default_drop :
    ((after (.defaultActionSet fromL 1) locked).stages ⟨0#32, 0⟩ ⟨0#32, 0⟩ (plain 100 3)).2 = nullPacket := by decide +kernel

/-- R144: with component 0 of channel 0 needing a read, a memory slot grants it and the order moves on. -/
theorem test_memory_slot_read :
    let s := after .memorySlot { reading 0 with cm := { (reading 0).cm with transfer := none } }
    s.cm.transfer = some (.read 0 true) ∧ s.cm.roundRobin = 1 := by decide +kernel

end Sys2Proof.Tests
end

-- The Departure Timer: the law of the pacer, its commands, and the group start (chapter 3)
section
/-! SUPPORT. The pacer's law (R52, R53): no fraction of a tick is lost, so slot k begins floor(k × N / R) ticks after the anchor. -/

namespace Sys2Proof.DepartureTiming
open Sys2Proof.Machine

/-! ### The pacer (R52, R53) -/

/-- The pacer runs at `rate`: it holds q and r of that rate, and its accumulator lies in 0..R − 1 (R52, R53). -/
structure RunsAt (p : Pacer) (rate : Nat) : Prop where
  rate_eq : p.rate = rate
  quotient_eq : p.quotient = pacerN / rate
  remainder_eq : p.remainder = pacerN % rate
  acc_lt : p.acc < rate

theorem runsAt_pacerFor {rate : Nat} (h : 0 < rate) : RunsAt (pacerFor rate) rate := ⟨rfl, rfl, rfl, h⟩

/-- The two branches of an interval: the accumulator reaches R and the interval is q + 1, or it does not and it is q (R53). -/
theorem advance_cases (p : Pacer) :
    (p.rate ≤ p.acc + p.remainder ∧ p.advance = (p.quotient + 1, { p with acc := p.acc + p.remainder - p.rate }))
    ∨ (p.acc + p.remainder < p.rate ∧ p.advance = (p.quotient, { p with acc := p.acc + p.remainder })) := by
  unfold Pacer.advance
  split
  · exact .inl ⟨‹_›, rfl⟩
  · exact .inr ⟨by omega, rfl⟩

namespace RunsAt
variable {p : Pacer} {rate : Nat}

theorem remainder_lt (h : RunsAt p rate) : p.remainder < rate := by
  rw [h.remainder_eq]
  exact Nat.mod_lt _ (Nat.zero_lt_of_lt h.acc_lt)

/-- A pacer that runs at a rate goes on running at it. -/
theorem advance (h : RunsAt p rate) : RunsAt p.advance.2 rate := by
  have hr := h.remainder_lt
  obtain ⟨h1, h2, h3, h4⟩ := h
  rcases advance_cases p with ⟨hc, e⟩ | ⟨hc, e⟩ <;> rw [e]
  · exact ⟨h1, h2, h3, by simp only; omega⟩
  · exact ⟨h1, h2, h3, by simp only; omega⟩

/-- Every interval is q or q + 1 (R53). -/
theorem interval (h : RunsAt p rate) : p.advance.1 = pacerN / rate ∨ p.advance.1 = pacerN / rate + 1 := by
  rcases advance_cases p with ⟨_, e⟩ | ⟨_, e⟩ <;> rw [e, ← h.quotient_eq]
  · exact .inr rfl
  · exact .inl rfl

/-- No fraction of a tick is lost: an interval of `i` ticks leaves in the accumulator what N exceeds i × R by. -/
theorem conserves (h : RunsAt p rate) : p.advance.1 * rate + p.advance.2.acc = p.acc + pacerN := by
  have hdiv : rate * p.quotient + p.remainder = pacerN := by
    rw [h.quotient_eq, h.remainder_eq]
    exact Nat.div_add_mod ..
  have hr := h.rate_eq
  rcases advance_cases p with ⟨hc, e⟩ | ⟨_, e⟩ <;> rw [e]
  · calc (p.quotient + 1) * rate + (p.acc + p.remainder - p.rate)
        = rate * p.quotient + rate + (p.acc + p.remainder - rate) := by rw [hr, Nat.succ_mul, Nat.mul_comm]
      _ = p.acc + pacerN := by omega
  · calc p.quotient * rate + (p.acc + p.remainder)
        = rate * p.quotient + (p.acc + p.remainder) := by rw [Nat.mul_comm]
      _ = p.acc + pacerN := by omega

/-- The floor law of R53, for a pacer whose accumulator stands anywhere. -/
theorem ticksTo (h : RunsAt p rate) (k : Nat) : Pacer.ticksTo k p = (p.acc + k * pacerN) / rate := by
  induction k generalizing p with
  | zero => simp [Pacer.ticksTo, Nat.div_eq_of_lt h.acc_lt]
  | succ k ih =>
    have hpos : 0 < rate := Nat.zero_lt_of_lt h.acc_lt
    calc Pacer.ticksTo (k + 1) p
        = p.advance.1 + (p.advance.2.acc + k * pacerN) / rate := by rw [Pacer.ticksTo, ih h.advance]
      _ = (p.advance.2.acc + k * pacerN + p.advance.1 * rate) / rate := by
          rw [Nat.add_mul_div_right _ _ hpos, Nat.add_comm]
      _ = (p.acc + (k + 1) * pacerN) / rate := by
          congr 1
          have := h.conserves
          rw [Nat.succ_mul]
          omega

end RunsAt

/-- With a pacer in use the next slot time is the start of the slot plus the pacer's interval (R53). -/
theorem computeNext_of_pacer {d : DepartureTimer} {p : Pacer} (h : d.pacer = some p) (start : SiteTime) :
    d.computeNext start = { d with pacer := some p.advance.2, nextSlot := some (addTicks start p.advance.1) } := by
  simp [DepartureTimer.computeNext, h]

/-- Settles O24, by the floor law for every accumulator. -/
theorem pacerLaw : Obligations.PacerLaw := by
  intro rate hpos
  refine ⟨rfl, fun k => ?_, fun p hrate hq hr hacc => ?_⟩
  · simpa [pacerFor] using (runsAt_pacerFor hpos).ticksTo k
  · have h : RunsAt p rate := ⟨hrate, hq, hr, hacc⟩
    have next := h.advance
    exact ⟨next.acc_lt, h.interval,
      ⟨next.rate_eq, next.quotient_eq.trans hq.symm, next.remainder_eq.trans hr.symm⟩,
      fun d start hd => computeNext_of_pacer hd start⟩

end Sys2Proof.DepartureTiming
end

section
/-! SUPPORT. RATE_SET, OFFSET_SET, DELAY_SET, TIME_SET and HOLDOVER_SET (R59 to R61, R63, R84, R85): what each does under each
choice of its parameters. -/

namespace Sys2Proof.DepartureTiming
open Sys2Proof.Machine

/-! ### The commands of departure timing, once heard (R59, R60, R63, R84, R85) -/

section Heard
variable {s : State} {h : Header}

theorem exec_rateSet (hh : s.Hears h.source .timing) (rate : Nat) (t : TimingParam) :
    exec (.rateSet h rate t) s = .next (((s.heard h.source).doRateSet rate t).answer h.tag 0x12#8) :=
  congrArg _ (s.manage_eq h (.rateSet rate t) .timing rfl nofun nofun hh)

theorem exec_offsetSet (hh : s.Hears h.source .timing) (v : Int) (t : TimingParam) :
    exec (.offsetSet h v t) s = .next (((s.heard h.source).doOffsetSet v t).answer h.tag 0x13#8) :=
  congrArg _ (s.manage_eq h (.offsetSet v t) .timing rfl nofun nofun hh)

theorem exec_delaySet (hh : s.Hears h.source .timing) (ms : Nat) :
    exec (.delaySet h ms) s = .next (((s.heard h.source).doDelaySet ms).answer h.tag 0x14#8) :=
  congrArg _ (s.manage_eq h (.delaySet ms) .timing rfl nofun nofun hh)

theorem exec_holdoverSet (hh : s.Hears h.source .timing) (n : Nat) :
    exec (.holdoverSet h n) s = .next (((s.heard h.source).doHoldoverSet n).answer h.tag 0x16#8) :=
  congrArg _ (s.manage_eq h (.holdoverSet n) .timing rfl nofun nofun hh)

/-- The late starts of a TIME_SET come after its reply (R27, log entry 40). -/
theorem exec_timeSet (hh : s.Hears h.source .timing) (v : Seconds) :
    exec (.timeSet h v) s = .next (((s.heard h.source).doTimeSet v).answer h.tag 0x15#8).settle := by
  have hm := s.manage_eq h (.timeSet v) .timing rfl nofun nofun hh
  rw [State.whileLive_of_live _ _ hh.1] at hm
  exact congrArg Host.Outcome.next ((State.whileLive_of_live _ _ hh.1).trans (congrArg State.settle hm))

end Heard

/-! ### DELAY_SET and OFFSET_SET (R60, R61, R63) -/

/-- The delay is taken in ticks and answered in milliseconds (R63). -/
theorem doDelaySet_eq (s : State) (ms : Nat) :
    s.doDelaySet ms =
      State.done { s with dt := { s.dt with nominalDelay := clamp 1 500 ms * 27000 } } (toBytes 4 (clamp 1 500 ms)) := by
  simp [State.doDelaySet, DepartureTimer.delayBytes]

theorem doOffsetSet_range (s : State) (v : Int) {t : TimingParam} (ht : 1 < t.choice) :
    s.doOffsetSet v t = s.refuse .range := by
  simp [State.doOffsetSet, ht]

theorem doOffsetSet_state (s : State) (v : Int) {t : TimingParam} (ht : t.choice = 1) (hm : s.re.mode = .mfn) :
    s.doOffsetSet v t = s.refuse .state := by
  simp [State.doOffsetSet, ht, hm]

theorem doOffsetSet_scheduled (s : State) (v : Int) {t : TimingParam} (ht : t.choice = 1) (hm : s.re.mode = .sfn) :
    s.doOffsetSet v t =
      State.done
        { s with dt := { s.dt.countReplaced s.dt.pendingOffset.isSome with
                         pendingOffset := some ⟨clampInt (-27000000) 27000000 v, t.cadence⟩ } }
        (signed4 s.dt.offset ++ [0x01#8] ++ signed4 (clampInt (-27000000) 27000000 v) ++ toBytes 2 t.cadence.toNat) := by
  simp [State.doOffsetSet, ht, hm, DepartureTimer.offsetBytes, DepartureTimer.countReplaced, presence, pendingOffsetBytes]

theorem doOffsetSet_now (s : State) (v : Int) {t : TimingParam} (ht : t.choice = 0) :
    s.doOffsetSet v t =
      State.done
        { s with dt := { s.dt.countReplaced s.dt.pendingOffset.isSome with
                         offset := clampInt (-27000000) 27000000 v, pendingOffset := none } }
        (signed4 (clampInt (-27000000) 27000000 v) ++ [0x00#8]) := by
  simp [State.doOffsetSet, ht, DepartureTimer.offsetBytes, DepartureTimer.countReplaced, presence]

/-! ### TIME_SET (R84) -/

theorem doTimeSet_state (s : State) (v : Seconds) (hr : s.tu.ref ≠ .free) : s.doTimeSet v = s.refuse .state :=
  if_neg hr

theorem doTimeSet_free (s : State) (v : Seconds) (hr : s.tu.ref = .free) :
    s.doTimeSet v =
      (s.stepTime { s.tu.time with sec := v }).done (toBytes 4 v.toNat ++ toBytes 4 s.tu.time.tick) :=
  if_pos hr

/-! ### HOLDOVER_SET (R80, R85) -/

/-- The state with its time declared expired, the flag not yet raised (R80). -/
def expired (s : State) : State := { s with tu := { s.tu with ref := s.tu.ref.expire } }

/-- An expiry is declared where the limit is reached and the reference state is one that expires; then REF_EXPIRED is raised, and else
nothing happens (R80, R85). -/
theorem checkExpiry_spec (s : State) :
    s.checkExpiry.tu = { s.tu with ref := if s.tu.limit ≤ s.tu.elapsed then s.tu.ref.expire else s.tu.ref }
    ∧ (s.checkExpiry.tu.ref = s.tu.ref → s.checkExpiry = s)
    ∧ (s.checkExpiry.tu.ref ≠ s.tu.ref →
        s.checkExpiry = { s with tu := s.checkExpiry.tu, su := s.checkExpiry.su, mu := s.checkExpiry.mu }
        ∧ s.FlagRaised s.checkExpiry .refExpired) := by
  by_cases hdue : s.tu.expiryDue = true
  · have ⟨hne, hle⟩ : s.tu.ref.expire ≠ s.tu.ref ∧ s.tu.limit ≤ s.tu.elapsed := by
      simpa [TimingUnit.expiryDue] using hdue
    have e : s.checkExpiry = (expired s).raise .refExpired := if_pos hdue
    rw [e, if_pos hle]
    exact ⟨rfl, fun h => absurd h hne, fun _ => ⟨rfl, (expired s).raise_flagRaised .refExpired⟩⟩
  · have e : s.checkExpiry = s := if_neg hdue
    have keeps : (if s.tu.limit ≤ s.tu.elapsed then s.tu.ref.expire else s.tu.ref) = s.tu.ref := by
      split
      · simpa [TimingUnit.expiryDue, *] using hdue
      · rfl
    rw [e, keeps]
    exact ⟨rfl, fun _ => rfl, fun h => absurd rfl h⟩

/-- The limit is stored, and an expiry that it makes due is declared at once (R85). -/
theorem doHoldoverSet_spec (s : State) (n : Nat) :
    ∃ u : State,
      s.doHoldoverSet n = u.done (toBytes 4 (clamp 10 86400 n) ++ refBytes u.tu.ref ++ toBytes 4 s.tu.elapsed)
      ∧ u.tu = { s.tu with
                 limit := clamp 10 86400 n
                 ref := if clamp 10 86400 n ≤ s.tu.elapsed then s.tu.ref.expire else s.tu.ref }
      ∧ (u.tu.ref = s.tu.ref → u = { s with tu := u.tu })
      ∧ (u.tu.ref ≠ s.tu.ref → u = { s with tu := u.tu, su := u.su, mu := u.mu } ∧ s.FlagRaised u .refExpired) := by
  obtain ⟨htu, same, expires⟩ := checkExpiry_spec { s with tu := { s.tu with limit := clamp 10 86400 n } }
  refine ⟨_, ?_, htu, fun h => ?_, expires⟩
  · simp [State.doHoldoverSet, TimingUnit.holdoverBytes, htu]
  · rw [same h]

/-- Settles O35, command by command. -/
theorem timingCommands : Obligations.TimingCommands := by
  rintro s k h hh rfl
  refine ⟨fun ms d hd => ?delay, fun v o t c ho hc => ⟨fun ht => ?now, fun ht hm => ?scheduled, fun ht hm => ?refused, fun ht => ?range⟩,
    fun v => ⟨fun hr => ?stepped, fun hr => ?notFree⟩, fun n d after hd ha => ?holdover⟩
  case delay =>
    rw [exec_delaySet hh, doDelaySet_eq (s.heard h.source), hd]
    rfl
  case now =>
    rw [exec_offsetSet hh, doOffsetSet_now (s.heard h.source) v ht, ho, hc]
    rfl
  case scheduled =>
    rw [exec_offsetSet hh, doOffsetSet_scheduled (s.heard h.source) v ht hm, ho, hc]
    rfl
  case refused =>
    rw [exec_offsetSet hh, doOffsetSet_state (s.heard h.source) v ht hm]
    rfl
  case range =>
    rw [exec_offsetSet hh, doOffsetSet_range (s.heard h.source) v ht]
    rfl
  case stepped =>
    rw [exec_timeSet hh, doTimeSet_free (s.heard h.source) v hr]
    rfl
  case notFree =>
    rw [exec_timeSet hh, doTimeSet_state (s.heard h.source) v hr]
    rfl
  case holdover =>
    have expired : after = s.tu.ref.expire := by
      rw [ha]
      cases s.tu.ref with
      | qualifying b => cases b <;> rfl
      | _ => rfl
    obtain ⟨u, hu, htu, hrest⟩ := doHoldoverSet_spec (s.heard h.source) n
    refine ⟨u, ?_, ?_, hrest⟩
    · rw [exec_holdoverSet hh, hu, hd]
      rfl
    · rw [htu, expired, hd]
      rfl

/-! ### RATE_SET (R59, R61) -/

theorem doRateSet_range (s : State) {rate : Nat} {t : TimingParam} (hr : rate < 1000000 ∨ 72000000 < rate ∨ 1 < t.choice) :
    s.doRateSet rate t = s.refuse .range := if_pos hr

section InRange
variable (s : State) {rate : Nat} {t : TimingParam} (lo : 1000000 ≤ rate) (hi : rate ≤ 72000000)
include lo hi

theorem doRateSet_state (ht : t.choice = 1) (hs : s.re.mode = .mfn ∨ s.dt.rate = none) :
    s.doRateSet rate t = s.refuse .state := by
  rw [State.doRateSet, if_neg (by omega), if_pos ht, if_pos hs]

theorem doRateSet_scheduled {r : Nat} (ht : t.choice = 1) (hm : s.re.mode = .sfn) (hr : s.dt.rate = some r) :
    s.doRateSet rate t =
      State.done
        { s with dt := { s.dt.countReplaced s.dt.pendingRate.isSome with pendingRate := some ⟨rate, t.cadence⟩ } }
        (toBytes 4 r ++ presence (fun p : Pacer => toBytes 4 p.rate) s.dt.pacer ++ [0x01#8] ++ toBytes 4 rate
          ++ toBytes 2 t.cadence.toNat) := by
  rw [State.doRateSet, if_neg (by omega), if_pos ht, if_neg (by simp [hm, hr])]
  simp [DepartureTimer.rateBytes, DepartureTimer.countReplaced, hr, presence, pendingRateBytes]

theorem doRateSet_now (ht : t.choice = 0) :
    s.doRateSet rate t = (s.rateNow rate).done (s.rateNow rate).dt.rateBytes := by
  rw [State.doRateSet, if_neg (by omega), if_neg (by omega)]

end InRange

/-- A rate taken NOW where one was in force: the pacer keeps its own until the next anchor (R59). -/
theorem rateNow_of_some (s : State) {r : Nat} (rate : Nat) (hr : s.dt.rate = some r) :
    s.rateNow rate =
      { s with
        dt := { s.dt.countReplaced s.dt.pendingRate.isSome with
                rate := some rate, pendingRate := none
                reanchor := decide (s.re.mode = .mfn) || s.dt.reanchor } } := by
  have hmode : (s.re.mode == Mode.mfn) = decide (s.re.mode = .mfn) := by cases s.re.mode <;> rfl
  simp [State.rateNow, hr, DepartureTimer.countReplaced, hmode]

/-- The Departure Timer after the first rate: in MFN mode pacing begins now (R58, R59). -/
def firstRate (d : DepartureTimer) (mode : Mode) (rate : Nat) (now : SiteTime) : DepartureTimer :=
  { d.countReplaced d.pendingRate.isSome with
    rate := some rate, pendingRate := none
    pacer := if mode = .mfn then some (pacerFor rate) else d.pacer
    reanchor := decide (mode = .sfn) && d.reanchor
    nextSlot := if mode = .mfn then some now else d.nextSlot }

/-- The first rate clears NO_RATE, and the gate is derived afresh (R59, R162). -/
theorem rateNow_of_none (s : State) (rate : Nat) (hr : s.dt.rate = none) :
    s.rateNow rate =
      State.regate { s with dt := firstRate s.dt s.re.mode rate s.tu.time, su := { s.su with noRate := false } } := by
  cases hm : s.re.mode <;>
    simp [State.rateNow, hr, State.anchorMfn, hm, DepartureTimer.anchor, firstRate, DepartureTimer.countReplaced]

@[simp] theorem setEffective_noRate (s : State) (e : Effective) : (s.setEffective e).su.noRate = s.su.noRate := by
  unfold State.setEffective
  split <;> rfl

@[simp] theorem setEffective_requested (s : State) (e : Effective) :
    (s.setEffective e).su.requested = s.su.requested := by
  unfold State.setEffective
  split <;> rfl

@[simp] theorem alignGate_noRate (s : State) : s.alignGate.su.noRate = s.su.noRate := by
  unfold State.alignGate
  split <;> split <;> simp

@[simp] theorem alignGate_requested (s : State) : s.alignGate.su.requested = s.su.requested := by
  unfold State.alignGate
  split <;> split <;> simp

@[simp] theorem regate_noRate (s : State) : s.regate.su.noRate = s.su.noRate := alignGate_noRate _

@[simp] theorem regate_requested (s : State) : s.regate.su.requested = s.su.deriveRequested :=
  alignGate_requested _

theorem anyFactor_iff (u : Supervision) (c : DiagAction) : u.anyFactor c = true ↔ c ∈ u.factors.toList := by
  simp only [Supervision.anyFactor, List.any_eq_true, beq_iff_eq, exists_eq_right]

/-- With a rate set the requested state follows from the other factors (R161). -/
theorem deriveRequested_of_rate (u : Supervision) (h : u.noRate = false) :
    u.deriveRequested =
      if u.mgmt = .stop ∨ u.timing = true ∨ .stop ∈ u.factors.toList then .stop
      else if u.mgmt = .hold ∨ .hold ∈ u.factors.toList then .hold else .run := by
  simp only [Supervision.deriveRequested, anyFactor_iff, h, Bool.false_eq_true, false_or]

/-- Settles O36: the refusals, AT CADENCE, NOW, and the first rate. -/
theorem rateSet : Obligations.RateSet := by
  rintro s k h rate t c inUse hh rfl hc hin
  refine ⟨fun hr => ?range, fun lo hi => ⟨fun ht hs => ?state, fun r ht hm hr => ?scheduled, fun r ht hr => ?now,
    fun ht hr => ?first⟩⟩
  case range =>
    rw [exec_rateSet hh, doRateSet_range (s.heard h.source) hr]
    rfl
  case state =>
    rw [exec_rateSet hh, doRateSet_state (s.heard h.source) lo hi ht hs]
    rfl
  case scheduled =>
    rw [exec_rateSet hh, doRateSet_scheduled (s.heard h.source) lo hi ht hm hr, hc, hin]
    rfl
  case now =>
    rw [exec_rateSet hh, doRateSet_now (s.heard h.source) lo hi ht, rateNow_of_some (s.heard h.source) rate hr, hc, hin]
    rfl
  case first =>
    refine ⟨(s.heard h.source).rateNow rate, ?_, ?_⟩
    · rw [exec_rateSet hh, doRateSet_now (s.heard h.source) lo hi ht]
      rfl
    · rw [rateNow_of_none (s.heard h.source) rate hr]
      refine ⟨(State.regate_frame _).trans ?_, ?_, regate_noRate _, (regate_requested _).trans (deriveRequested_of_rate _ rfl)⟩
      · rw [State.regate_dt]
      · rw [hc, State.regate_dt]
        rfl

end Sys2Proof.DepartureTiming
end

section
/-! SUPPORT. The group start (R27, R28) as far as the Departure Timer depends on it: what is passed, overlapped or dropped is of other
groups, and position 0 is a cadence packet, which no stage past the first sees (R42). -/

namespace Sys2Proof.DepartureTiming
open Sys2Proof.Machine

/-! ### Records and slots through the removal of other groups (R17) -/

/-- A removal by one number leaves what is found under another. -/
theorem find?_removeFirst_of_ne {m n : Cadence} (hne : m ≠ n) (xs : List GroupRecord) :
    (removeFirst (fun r => r.number == m) xs).find? (fun r => r.number == n) = xs.find? (fun r => r.number == n) := by
  induction xs with
  | nil => rfl
  | cons x xs ih =>
    by_cases hx : x.number = m
    · simp [removeFirst, hx, hne]
    · simp [removeFirst, hx, List.find?_cons, ih]

/-- A change of the record found under a number is what is then found under it. -/
theorem find?_modifyFirst {n : Cadence} (g : GroupRecord → GroupRecord) (hg : ∀ r, (g r).number = r.number)
    (xs : List GroupRecord) :
    (modifyFirst (fun r => r.number == n) g xs).find? (fun r => r.number == n)
      = (xs.find? fun r => r.number == n).map g := by
  induction xs with
  | nil => rfl
  | cons x xs ih =>
    by_cases hx : x.number = n
    · simp [modifyFirst, hx, hg]
    · simp [modifyFirst, hx, ih]

/-- A record that is dropped has left its table (R17). -/
theorem dropRecord_recordLeft (s : State) (f : Feed) (n : Cadence) : s.RecordLeft (s.dropRecord f n) f n := by
  unfold State.dropRecord
  dsimp only
  split
  case isTrue h =>
    exact ⟨by simp [State.discardSlots, State.account, State.setRing, State.setTable, State.setOpen, State.ring, State.table],
      congrArg (fun o => { s.fi with openGroups := o }) (if_pos h).symm⟩
  case isFalse h =>
    exact ⟨by simp [State.discardSlots, State.account, State.setRing, State.setTable, State.ring, State.table],
      congrArg (fun o => { s.fi with openGroups := o }) (if_neg h).symm⟩

/-- Dropping a record reaches the Delay Store and the open groups only. -/
theorem dropRecord_frame (s : State) (f : Feed) (n : Cadence) :
    s.dropRecord f n = { s with fi := (s.dropRecord f n).fi, ds := (s.dropRecord f n).ds } := by
  unfold State.dropRecord
  dsimp only
  split <;> rfl

/-- Between two states nothing that decides the start of group `n` has changed: the Departure Timer, site time, the selection and the
records of `n` stand, no release has begun, and no slot has been filled. -/
structure KeepsGroup (n : Cadence) (s t : State) : Prop where
  dt : t.dt = s.dt
  tu : t.tu = s.tu
  selected : t.re.selected = s.re.selected
  lastStarted : t.re.lastStarted = s.re.lastStarted
  changeoverPending : t.re.changeoverPending = s.re.changeoverPending
  revertPending : t.re.revertPending = s.re.revertPending
  releasing : ∀ g, t.re.releasing = some g → s.re.releasing = some g
  record : ∀ f, t.record? f n = s.record? f n
  slots : ∀ f, (t.ring f).slots ⊆ (s.ring f).slots

namespace KeepsGroup
variable {n m : Cadence} {s t u : State}

theorem refl (s : State) : KeepsGroup n s s :=
  ⟨rfl, rfl, rfl, rfl, rfl, rfl, fun _ h => h, fun _ => rfl, fun _ => List.Subset.refl _⟩

theorem trans (h : KeepsGroup n s t) (k : KeepsGroup n t u) : KeepsGroup n s u :=
  ⟨k.dt.trans h.dt, k.tu.trans h.tu, k.selected.trans h.selected, k.lastStarted.trans h.lastStarted,
    k.changeoverPending.trans h.changeoverPending, k.revertPending.trans h.revertPending,
    fun g hg => h.releasing g (k.releasing g hg), fun f => (k.record f).trans (h.record f),
    fun f => List.Subset.trans (k.slots f) (h.slots f)⟩

theorem countRelease (c : ReleaseCounters → ReleaseCounters) : KeepsGroup n s (s.countRelease c) :=
  ⟨rfl, rfl, rfl, rfl, rfl, rfl, fun _ h => h, fun _ => rfl, fun _ => List.Subset.refl _⟩

theorem raise (e : EventFlag) : KeepsGroup n s (s.raise e) :=
  ⟨rfl, rfl, rfl, rfl, rfl, rfl, fun _ h => h, fun _ => rfl, fun _ => List.Subset.refl _⟩

theorem raiseIf (b : Bool) (e : EventFlag) : KeepsGroup n s (s.raiseIf b e) := by
  unfold State.raiseIf
  split
  · exact raise e
  · exact refl s

/-- A record of another number may be dropped. -/
theorem dropRecord (f : Feed) (hne : m ≠ n) : KeepsGroup n s (s.dropRecord f m) := by
  obtain ⟨hds, -⟩ := dropRecord_recordLeft s f m
  have hframe := dropRecord_frame s f m
  refine ⟨by rw [hframe], by rw [hframe], by rw [hframe], by rw [hframe], by rw [hframe], by rw [hframe],
    fun g hg => by rwa [hframe] at hg, fun g => ?record, fun g => ?slots⟩
  case record =>
    simp only [State.record?, State.table, hds]
    by_cases hg : g = f
    · subst hg
      rw [PerFeed.get_set]
      exact find?_removeFirst_of_ne hne _
    · rw [PerFeed.get_set_of_ne _ _ hg]
  case slots =>
    simp only [State.ring, hds]
    by_cases hg : g = f
    · subst hg
      rw [PerFeed.get_set]
      exact fun x hx => (List.mem_filter.mp hx).1
    · rw [PerFeed.get_set_of_ne _ _ hg]
      exact List.Subset.refl _

/-- Steps that each keep the group keep it one after another. -/
theorem foldl {step : State → Cadence → State} (ms : List Cadence) (s : State)
    (h : ∀ (s : State), ∀ m ∈ ms, KeepsGroup n s (step s m)) : KeepsGroup n s (ms.foldl step s) := by
  induction ms generalizing s with
  | nil => exact refl s
  | cons m ms ih =>
    exact (h s m (List.mem_cons_self ..)).trans (ih _ fun s x hx => h s x (List.mem_cons_of_mem _ hx))

theorem dropRecords (f : Feed) (ms : List Cadence) (h : n ∉ ms) : KeepsGroup n s (s.dropRecords f ms) :=
  foldl ms s fun _ _ hm => dropRecord f fun e => h (e ▸ hm)

/-- The records passed at the start of `n` are of other numbers (R29). -/
theorem passOthers (time : SiteTime) : KeepsGroup n s (s.passOthers n time) := by
  have others : ∀ (s : State) (f : Feed), ∀ m ∈ s.passedNumbers f n time, m ≠ n := by
    intro s f m hm
    simp only [State.passedNumbers, List.mem_map, List.mem_filter, Bool.and_eq_true, bne_iff_ne] at hm
    obtain ⟨r, ⟨_, ⟨⟨_, hne⟩, _⟩, _⟩, rfl⟩ := hm
    exact hne
  have passed : ∀ (s : State) (f : Feed), KeepsGroup n s ((s.passedNumbers f n time).foldl (fun s m => s.discardPassed f m) s) :=
    fun s f => foldl _ s fun s m hm => (dropRecord f (others _ f m hm)).trans (countRelease _)
  exact (passed s .a).trans (passed _ .b)

/-- The record and the twin of another group may leave, its release being over (R33). -/
theorem doneGroup (f : Feed) (hne : m ≠ n) : KeepsGroup n s (s.doneGroup f m) :=
  have dropped : KeepsGroup n s ((s.dropRecord f m).dropRecord f.other m) := (dropRecord f hne).trans (dropRecord _ hne)
  ⟨dropped.dt, dropped.tu, dropped.selected, dropped.lastStarted, dropped.changeoverPending, dropped.revertPending, nofun,
    dropped.record, dropped.slots⟩

/-- A release of another group ends by overlap (R34). -/
theorem overlapReleasing (h : ∀ g, s.re.releasing = some g → g.number ≠ n) : KeepsGroup n s s.overlapReleasing := by
  unfold State.overlapReleasing
  split
  · exact refl s
  · exact (countRelease _).trans ((raise _).trans (doneGroup _ (h _ ‹_›)))

/-- The copy that governs the release of `n` is the same (R26, R28). -/
theorem chosenCopy (h : KeepsGroup n s t) : t.chosenCopy n = s.chosenCopy n := by
  simp only [State.chosenCopy, h.record, h.selected, h.lastStarted]

end KeepsGroup

/-! ### The group start up to its first slot (R27, R28) -/

/-- With no selection pending none is applied. -/
theorem applySelection_of_not_pending {s : State} (hc : s.re.changeoverPending = false) (hr : s.re.revertPending = false) :
    s.applySelection = (s, false) := by
  simp [State.applySelection, hc, hr]

/-- The copy chosen for a number stands in the table of its feed. -/
theorem record?_of_chosenCopy {s : State} {n : Cadence} {f : Feed} {r : GroupRecord} (h : s.chosenCopy n = some (f, r)) :
    s.record? f n = some r := by
  simp only [State.chosenCopy, Option.or_eq_some_iff, Option.map_eq_some_iff, Option.filter_eq_some_iff, Prod.mk.injEq] at h
  rcases h with ⟨x, ⟨hx, _⟩, rfl, rfl⟩ | ⟨_, x, ⟨hx, _⟩, rfl, rfl⟩ <;> exact hx

/-- The state in which the group start of `n` chooses its copy: the groups it passes are gone, the release in progress has ended and
a late start is counted (R27, R29, R34). -/
def beforeChoice (s : State) (n : Cadence) (time : SiteTime) : State :=
  (s.passOthers n time).overlapReleasing.countRelease fun c =>
    { c with lateStarts := countIf (isAfter (s.passOthers n time).overlapReleasing.tu.time time) c.lateStarts }

theorem beforeChoice_keeps {s : State} {n : Cadence} (h : ∀ g, s.re.releasing = some g → g.number ≠ n) (time : SiteTime) :
    KeepsGroup n s (beforeChoice s n time) :=
  have passed : KeepsGroup n s (s.passOthers n time) := KeepsGroup.passOthers time
  (passed.trans (KeepsGroup.overlapReleasing fun g hg => h g (passed.releasing g hg))).trans (KeepsGroup.countRelease _)

/-- With no selection pending the chosen copy is opened and its first slot begun (R28). -/
theorem startGroup_of_copy {s : State} {n : Cadence} {time : SiteTime} {f : Feed} {r : GroupRecord}
    (hc : (beforeChoice s n time).re.changeoverPending = false) (hr : (beforeChoice s n time).re.revertPending = false)
    (hcopy : (beforeChoice s n time).chosenCopy n = some (f, r)) :
    s.startGroup n time =
      State.recandidate ((((beforeChoice s n time).openRelease f n).recandidate none).firstSlot n)
        ((((beforeChoice s n time).openRelease f n).recandidate none).firstSlot n).dueCandidate := by
  have selection := applySelection_of_not_pending hc hr
  unfold beforeChoice at *
  simp only [State.startGroup, selection, hcopy]

/-- What a group start that is due comes to: what precedes the choice of the copy keeps the group, the copy is opened, and its first
slot begun (R27, R28). -/
theorem groupStart_of_startsGroup {s : State} {n : Cadence} {f : Feed} {r : GroupRecord} (h : s.StartsGroup n f r) :
    ∃ u v : State, KeepsGroup n s u ∧ v = ((u.openRelease f n).recandidate none).firstSlot n
      ∧ s.groupStart = v.recandidate v.dueCandidate := by
  obtain ⟨_, hmode, hrate, hcand, hcopy, hdue, _, _, hchange, hrevert, hrel⟩ := h
  have htime : s.candidateTime = some r.release := by simp [State.candidateTime, hcand, hcopy]
  have hstart : s.groupStartDue = true := by simp [State.groupStartDue, hmode, hrate, htime, hdue]
  have keeps := beforeChoice_keeps hrel r.release
  refine ⟨_, _, keeps, rfl, ?_⟩
  rw [State.groupStart, if_pos hstart]
  simp only [hcand, htime]
  exact startGroup_of_copy (keeps.changeoverPending.trans hchange) (keeps.revertPending.trans hrevert)
    (keeps.chosenCopy.trans hcopy)

/-! ### The opening of a release and its first slot (R28, R31, R53, R62) -/

/-- The record as its release begins, from position 0 (R28, R31). -/
def atRelease (r : GroupRecord) : GroupRecord := { r with state := .releasing, nextPosition := 0 }

/-- From `s` to `t` the release of `n` from `f` has been opened: its record `r` is RELEASING from position 0, the Departure Timer and site
time stand, and no slot has been filled (R28). -/
structure Opened (f : Feed) (n : Cadence) (r : GroupRecord) (s t : State) : Prop where
  dt : t.dt = s.dt
  tu : t.tu = s.tu
  releasing : t.re.releasing = some ⟨f, n⟩
  record : t.record? f n = some (atRelease r)
  slots : ∀ g, (t.ring g).slots ⊆ (s.ring g).slots

theorem Opened.recandidate {f : Feed} {n : Cadence} {r : GroupRecord} {s t : State} (h : Opened f n r s t)
    (due : Option Cadence) : Opened f n r s (t.recandidate due) :=
  ⟨h.dt, h.tu, h.releasing, h.record, h.slots⟩

/-- The start counted by `c` and the record of `n` in `f` marked RELEASING (R28, steps 2 and 3). -/
def marked (s : State) (f : Feed) (n : Cadence) (c : ReleaseCounters → ReleaseCounters) : State :=
  (s.countRelease c).modifyGroup f n atRelease

/-- Both tables without the records before `n` (R28, step 5). -/
def withoutOlder (s : State) (n : Cadence) : State :=
  (s.dropRecords .a (s.numbersBefore .a n)).dropRecords .b ((s.dropRecords .a (s.numbersBefore .a n)).numbersBefore .b n)

/-- The bookkeeping of a group start, step by step (R28, steps 2 to 6). -/
theorem openRelease_eq (s : State) (f : Feed) (n : Cadence) :
    ∃ (c : ReleaseCounters → ReleaseCounters) (b : Bool) (t : State),
      t = withoutOlder ((marked s f n c).raiseIf b .cadenceMissing) n
      ∧ s.openRelease f n =
          { t with re := { t.re with lastStarted := some n, lastGroupStart := some t.tu.time, releasing := some ⟨f, n⟩ } } :=
  ⟨_, _, _, rfl, rfl⟩

theorem record?_marked {s : State} {f : Feed} {n : Cadence} {r : GroupRecord} (h : s.record? f n = some r)
    (c : ReleaseCounters → ReleaseCounters) : (marked s f n c).record? f n = some (atRelease r) :=
  calc (marked s f n c).record? f n
      = (modifyFirst (fun r => r.number == n) atRelease (s.table f)).find? (fun r => r.number == n) :=
        congrArg (List.find? _) (State.table_setTable ..)
    _ = (s.record? f n).map atRelease := find?_modifyFirst atRelease (fun _ => rfl) _
    _ = some (atRelease r) := congrArg _ h

/-- A number is not before itself. -/
theorem not_mem_numbersBefore (s : State) (f : Feed) (n : Cadence) : n ∉ s.numbersBefore f n := by
  intro h
  simp only [State.numbersBefore, List.mem_map, List.mem_filter] at h
  obtain ⟨r, ⟨-, hr⟩, rfl⟩ := h
  simp [cadenceAfter] at hr

theorem withoutOlder_keeps (s : State) (n : Cadence) : KeepsGroup n s (withoutOlder s n) :=
  (KeepsGroup.dropRecords _ _ (not_mem_numbersBefore s .a n)).trans
    (KeepsGroup.dropRecords _ _ (not_mem_numbersBefore _ .b n))

theorem openRelease_opened {s : State} {f : Feed} {n : Cadence} {r : GroupRecord} (h : s.record? f n = some r) :
    Opened f n r s (s.openRelease f n) := by
  obtain ⟨c, b, t, ht, e⟩ := openRelease_eq s f n
  have keeps : KeepsGroup n (marked s f n c) t := ht ▸ (KeepsGroup.raiseIf b _).trans (withoutOlder_keeps _ n)
  have rings : ∀ g, (marked s f n c).ring g = s.ring g := fun _ => rfl
  rw [e]
  exact ⟨keeps.dt, keeps.tu, rfl, (keeps.record f).trans (record?_marked h c), fun g => rings g ▸ keeps.slots g⟩

@[simp] theorem tallyNull_dt (s : State) : s.tallyNull.dt = s.dt := by
  unfold State.tallyNull
  split <;> rfl

@[simp] theorem tallyGap_dt (s : State) : s.tallyGap.dt = s.dt := by
  unfold State.tallyGap
  split <;> rfl

@[simp] theorem beginAtPortT_dt (s : State) (p : Packet) : (s.beginAtPortT p).dt = s.dt := by
  unfold State.beginAtPortT
  split
  · exact tallyNull_dt s
  · rfl

/-- The gate leaves the Departure Timer alone (R44). -/
@[simp] theorem stage6_dt (s : State) (p : Packet) : (s.stage6 p).dt = s.dt := by
  unfold State.stage6
  split
  · exact beginAtPortT_dt ..
  · exact beginAtPortT_dt ..
  · rfl
  · rfl

/-- A cadence packet ends at stage 1, so that its release leaves the Departure Timer alone (R42). -/
theorem releaseSlot_dt_of_cadence {s : State} (f : Feed) (start : SiteTime) {x : Slot} (h : pidOf x.packet = pidCadence) :
    (s.releaseSlot f start x).dt = s.dt := by
  simp [State.releaseSlot, State.stages, h]

/-- Every HELD position 0 is a cadence packet (R12). -/
def CadenceFirst (s : State) : Prop := ∀ f, ∀ x ∈ (s.ring f).slots, x.position = some 0 → pidOf x.packet = pidCadence

theorem pid_of_holder_zero {s : State} (hs : CadenceFirst s) {f : Feed} {n : Cadence} {x : Slot} (h : s.holder f n 0 = some x) :
    pidOf x.packet = pidCadence := by
  have hp := List.find?_some h
  simp only [Bool.and_eq_true, beq_iff_eq] at hp
  exact hs f x (List.mem_of_find?_eq_some h) hp.2

/-- Position 0 leaves the Departure Timer alone, whether the record, its twin or nothing supplies it (R32). -/
theorem releaseFrom_zero_dt {s : State} (hs : CadenceFirst s) (f : Feed) (n : Cadence) (length : Nat) (start : SiteTime) :
    (s.releaseFrom f n length 0 start).dt = s.dt := by
  unfold State.releaseFrom
  split
  case h_1 x hx => exact releaseSlot_dt_of_cadence f start (pid_of_holder_zero hs hx)
  case h_2 =>
    split
    case h_1 x hx =>
      split at hx
      · exact releaseSlot_dt_of_cadence _ start (pid_of_holder_zero hs hx)
      · cases hx
    case h_2 => simp

/-- The release of position 0 of a group of more than one position leaves the Departure Timer alone (R31, R33). -/
theorem releasePosition_zero_dt {s : State} {g : Releasing} {r : GroupRecord} (hs : CadenceFirst s)
    (hg : s.re.releasing = some g) (hr : s.record? g.feed g.number = some r) (h0 : r.nextPosition = 0) (hlen : 1 < r.length)
    (start : SiteTime) : (s.releasePosition start).dt = s.dt := by
  simp only [State.releasePosition, hg, hr, h0]
  split
  · rw [if_neg (by omega), State.modifyGroup_dt]
    exact releaseFrom_zero_dt hs ..
  · exact releaseFrom_zero_dt hs ..

/-- The first slot of a group of more than one position: the changes due, the anchor, the slot counted and the next computed
(R53, R56, R62). -/
theorem firstSlot_dt {s : State} {f : Feed} {n : Cadence} {r : GroupRecord} (hs : CadenceFirst s)
    (hg : s.re.releasing = some ⟨f, n⟩) (hr : s.record? f n = some r) (h0 : r.nextPosition = 0) (hlen : 1 < r.length) :
    (s.firstSlot n).dt = (s.dt.startGroup n s.tu.time).countSlot.computeNext s.tu.time := by
  unfold State.firstSlot
  rw [releasePosition_zero_dt (g := ⟨f, n⟩) (r := r) _ _ _ h0 hlen]
  · simp
  · simpa [CadenceFirst, State.ring] using hs
  · simpa using hg
  · simpa [State.record?, State.table] using hr

/-! ### The Departure Timer at a group start (R52, R53, R56, R62) -/

/-- A pending rate change that is due is applied, counted and emptied (R62). -/
theorem applyRate_eq {d : DepartureTimer} {n : Cadence} {rate : Nat} {due : Bool}
    (hdue : due = d.pendingRate.any fun c => cadenceDue n c.cadence)
    (hrate : d.rate.map (fun x => if due then (d.pendingRate.map (·.rate)).getD x else x) = some rate) :
    d.applyRate n =
      { d with
        rate := some rate
        pendingRate := if due then none else d.pendingRate
        counters := { d.counters with rateChanges := countIf due d.counters.rateChanges } } := by
  obtain ⟨inForce, pacer, reanchor, nextSlot, offset, delay, pending, pendingOffset, counters⟩ := d
  obtain ⟨x, rfl, rfl⟩ := Option.map_eq_some_iff.mp hrate
  subst hdue
  cases pending with
  | none => rfl
  | some c => cases hc : cadenceDue n c.cadence <;> simp [DepartureTimer.applyRate, hc, countIf]

/-- A pending offset change that is due is applied, counted and emptied (R62). -/
theorem applyOffset_eq {d : DepartureTimer} {n : Cadence} {due : Bool}
    (hdue : due = d.pendingOffset.any fun c => cadenceDue n c.cadence) :
    d.applyOffset n =
      { d with
        offset := if due then (d.pendingOffset.map (·.offset)).getD d.offset else d.offset
        pendingOffset := if due then none else d.pendingOffset
        counters := { d.counters with offsetChanges := countIf due d.counters.offsetChanges } } := by
  obtain ⟨inForce, pacer, reanchor, nextSlot, offset, delay, pendingRate, pending, counters⟩ := d
  subst hdue
  cases pending with
  | none => rfl
  | some c => cases hc : cadenceDue n c.cadence <;> simp [DepartureTimer.applyOffset, hc, countIf]

/-- The anchor takes the rate in force, and the next slot follows slot 0 by the pacer's first interval (R52, R53, R56). -/
theorem anchor_then_next {d : DepartureTimer} {rate : Nat} (h : d.rate = some rate) (now : SiteTime) :
    (d.anchor now).countSlot.computeNext now =
      { d with
        pacer := some (pacerFor rate).advance.2
        reanchor := false
        nextSlot := some (addTicks now (pacerFor rate).advance.1)
        counters := { d.counters with slots := count d.counters.slots } } := by
  have hp : (d.anchor now).countSlot.pacer = some (pacerFor rate) := by
    simp [DepartureTimer.anchor, DepartureTimer.countSlot, h]
  rw [computeNext_of_pacer hp]
  simp [DepartureTimer.anchor, DepartureTimer.countSlot, h]

/-- A group start at the Departure Timer: the changes due, the anchor, slot 0 counted and the next slot computed (R52, R53, R56,
R62). -/
theorem startGroup_then_next {d : DepartureTimer} {n : Cadence} {rate : Nat} {dueR dueO : Bool}
    (hdueR : dueR = d.pendingRate.any fun c => cadenceDue n c.cadence)
    (hdueO : dueO = d.pendingOffset.any fun c => cadenceDue n c.cadence)
    (hrate : d.rate.map (fun x => if dueR then (d.pendingRate.map (·.rate)).getD x else x) = some rate) (now : SiteTime) :
    (d.startGroup n now).countSlot.computeNext now =
      { d with
        rate := some rate
        pacer := some (pacerFor rate).advance.2
        reanchor := false
        nextSlot := some (addTicks now (pacerFor rate).advance.1)
        offset := if dueO then (d.pendingOffset.map (·.offset)).getD d.offset else d.offset
        pendingRate := if dueR then none else d.pendingRate
        pendingOffset := if dueO then none else d.pendingOffset
        counters := { d.counters with
                      slots := count d.counters.slots
                      rateChanges := countIf dueR d.counters.rateChanges
                      offsetChanges := countIf dueO d.counters.offsetChanges } } := by
  have changed := applyRate_eq hdueR hrate
  have offsetDue : dueO = (d.applyRate n).pendingOffset.any fun c => cadenceDue n c.cadence := by rw [changed]; exact hdueO
  rw [DepartureTimer.startGroup, applyOffset_eq offsetDue, changed, anchor_then_next rfl]

/-- Settles O17: everything at a group start but the timer's own part leaves the timer alone. -/
theorem groupStartAnchors : Obligations.GroupStartAnchors := by
  intro s n f r rate offset dueR dueO h hdueR hdueO hrate hoffset
  obtain ⟨hlive, -, -, -, hcopy, -, hlen, hleads, -, -, -⟩ := id h
  obtain ⟨u, v, keeps, hv, hstart⟩ := groupStart_of_startsGroup h
  have opened : Opened f n r u ((u.openRelease f n).recandidate none) :=
    (openRelease_opened ((keeps.record f).trans (record?_of_chosenCopy hcopy))).recandidate none
  have cadence : CadenceFirst ((u.openRelease f n).recandidate none) := fun g x hx =>
    (hleads g).1 x (keeps.slots g (opened.slots g hx))
  have hdt : v.dt = (s.dt.startGroup n s.tu.time).countSlot.computeNext s.tu.time := by
    rw [hv, firstSlot_dt cadence opened.releasing opened.record rfl hlen, opened.dt, opened.tu, keeps.dt, keeps.tu]
  refine ⟨s.groupStart, congrArg _ (State.whileLive_of_live s _ hlive), ?_⟩
  rw [hstart, State.recandidate_dt, hdt, startGroup_then_next hdueR hdueO hrate, hoffset]
  rfl

end Sys2Proof.DepartureTiming
end
